-- ==== Sys2Proof/Word.lean ====
section
/-!
DEFINITION. The word types of the block.
A register byte is 8 bits and a 16-bit register is 16 bits (10_state.md R104 to R128), and one bus access is one
BUS17 word of 17 bits (30_encoding.md R302). Every value is unsigned (00_scope.md R9).
-/

namespace Sys2Proof

/-- One byte: the bus data width and the register address width (00_scope.md R8, 20_memory.md R201). -/
abbrev Byte := BitVec 8

/-- A 16-bit register, CRC state or correction-table entry (00_scope.md R8, R12). -/
abbrev Word16 := BitVec 16

/-- One host access as a program writes it: W in bit 16, ADDR in 15:8, DATA in 7:0 (30_encoding.md R302). -/
abbrev BusWord := BitVec 17

end Sys2Proof
end

