-- ==== Sys2Proof/Syntax.lean ====
section
/-!
DEFINITION. The instructions of the block: one constructor per row of spec/opcode_table.json.
An instruction is one host bus access: a read, a write, or the write of a command byte to CMD (00_scope.md R2,
30_encoding.md R301, R304). Every command's operands are fixed registers (R306), so only the two host accesses
carry fields.
-/

namespace Sys2Proof

/-- The 20 rows of the opcode table. -/
inductive Instr where
  /-- NOP, command byte 0x00 (43_control.md R501). -/
  | nop
  /-- CRC_INIT, command byte 0x01 (41_crc_engine.md R423). -/
  | crcInit
  /-- CLEAR_ERR, command byte 0x02 (43_control.md R502). -/
  | clearErr
  /-- CRC_UPDATE.0, command byte 0x10 (41_crc_engine.md R424). -/
  | crcUpdate0
  /-- CRC_UPDATE.1, command byte 0x11 (41_crc_engine.md R424). -/
  | crcUpdate1
  /-- CRC_UPDATE.2, command byte 0x12 (41_crc_engine.md R424). -/
  | crcUpdate2
  /-- CRC_UPDATE.3, command byte 0x13 (41_crc_engine.md R424). -/
  | crcUpdate3
  /-- CRC_UPDATE.4, command byte 0x14 (41_crc_engine.md R424). -/
  | crcUpdate4
  /-- CRC_UPDATE.5, command byte 0x15 (41_crc_engine.md R424). -/
  | crcUpdate5
  /-- CRC_UPDATE.6, command byte 0x16 (41_crc_engine.md R424). -/
  | crcUpdate6
  /-- CRC_UPDATE.7, command byte 0x17 (41_crc_engine.md R424). -/
  | crcUpdate7
  /-- CRC_UPDATE.8, command byte 0x18 (41_crc_engine.md R424). -/
  | crcUpdate8
  /-- DESCRAMBLE, command byte 0x20 (40_tables_descrambler.md R403). -/
  | descramble
  /-- BITREV, command byte 0x21 (40_tables_descrambler.md R404). -/
  | bitrev
  /-- DECODE, command byte 0x30 (42_frame_decoder.md R441). -/
  | decode
  /-- DECODE_LEGACY, command byte 0x31 (42_frame_decoder.md R456). -/
  | decodeLegacy
  /-- DECODE_ENHANCED, command byte 0x32 (42_frame_decoder.md R457). -/
  | decodeEnhanced
  /-- SOFT_RESET, command byte 0xF0 (43_control.md R503). -/
  | softReset
  /-- REG_READ of the register address (43_control.md R504). -/
  | regRead (addr : Byte)
  /-- REG_WRITE of a byte at the register address (43_control.md R505). With address 0x00 it is the write of a
  reserved command byte (30_encoding.md R307, the table's note on REG_WRITE). -/
  | regWrite (addr value : Byte)
  deriving DecidableEq, Repr

end Sys2Proof
end

