-- ==== Sys2Proof/WellFormed.lean ====
section
/-!
DEFINITION. Which instructions a bus word can spell.
A write at address 0x00 of an assigned byte is that command, never a REG_WRITE (30_encoding.md R304,
43_control.md R505, the table's note on REG_WRITE). Every other instruction is well-formed.
-/

namespace Sys2Proof

/-- The assigned command bytes, in the order of the command map (30_encoding.md R304). -/
def assignedCommands : List Byte :=
  [0x00, 0x01, 0x02] ++ [0x10, 0x11, 0x12, 0x13, 0x14, 0x15, 0x16, 0x17, 0x18] ++ [0x20, 0x21] ++
    [0x30, 0x31, 0x32] ++ [0xF0]

/-- The one check: a REG_WRITE at CMD holds no assigned command byte. -/
def Instr.wellFormed (i : Instr) : Bool :=
  match i with
  | .nop => true
  | .crcInit => true
  | .clearErr => true
  | .crcUpdate0 => true
  | .crcUpdate1 => true
  | .crcUpdate2 => true
  | .crcUpdate3 => true
  | .crcUpdate4 => true
  | .crcUpdate5 => true
  | .crcUpdate6 => true
  | .crcUpdate7 => true
  | .crcUpdate8 => true
  | .descramble => true
  | .bitrev => true
  | .decode => true
  | .decodeLegacy => true
  | .decodeEnhanced => true
  | .softReset => true
  | .regRead _ => true
  | .regWrite addr value => addr != 0x00 || !assignedCommands.contains value

end Sys2Proof
end

