-- ==== Sys2Proof/Decode.lean ====
section
/-!
DEFINITION. The decoder and the encoder of bus words.
BUS17: bit 16 is W, bits 15:8 ADDR, bits 7:0 DATA (30_encoding.md R302). A write at ADDR = 0x00 carries a command
byte (R304). A reserved command byte stays a REG_WRITE at CMD, which raises RESERVED_CMD (R307). A read word whose
DATA is not 0x00 spells no access and is refused (R302, 93_implementation_defined.md I11).
-/

namespace Sys2Proof

/-- The W bit: 1 for a write (30_encoding.md R302). -/
def busIsWrite (w : BusWord) : Bool := w.getLsbD 16

/-- The ADDR field, bits 15:8 (30_encoding.md R302). -/
def busAddr (w : BusWord) : Byte := w.extractLsb' 8 8

/-- The DATA field, bits 7:0 (30_encoding.md R302). -/
def busData (w : BusWord) : Byte := w.extractLsb' 0 8

/-- The word of a write (30_encoding.md R302). -/
def busWrite (addr value : Byte) : BusWord := (1#1 ++ addr ++ value : BitVec (1 + 8 + 8))

/-- The word of a read, whose DATA is 0x00 (30_encoding.md R302). -/
def busRead (addr : Byte) : BusWord := (0#1 ++ addr ++ 0#8 : BitVec (1 + 8 + 8))

/-- The command map: what a byte written to CMD encodes, none when the byte is reserved (30_encoding.md R304,
R307). -/
def commandOf (c : Byte) : Option Instr :=
  match c.toNat with
  | 0x00 => some .nop
  | 0x01 => some .crcInit
  | 0x02 => some .clearErr
  | 0x10 => some .crcUpdate0
  | 0x11 => some .crcUpdate1
  | 0x12 => some .crcUpdate2
  | 0x13 => some .crcUpdate3
  | 0x14 => some .crcUpdate4
  | 0x15 => some .crcUpdate5
  | 0x16 => some .crcUpdate6
  | 0x17 => some .crcUpdate7
  | 0x18 => some .crcUpdate8
  | 0x20 => some .descramble
  | 0x21 => some .bitrev
  | 0x30 => some .decode
  | 0x31 => some .decodeLegacy
  | 0x32 => some .decodeEnhanced
  | 0xF0 => some .softReset
  | _ => none

/-- The instruction of a write word: a command at address 0x00 when the byte is assigned, otherwise a REG_WRITE
(30_encoding.md R304, 43_control.md R505). -/
def decodeWrite (addr value : Byte) : Instr :=
  if addr = 0x00 then (commandOf value).getD (.regWrite addr value) else .regWrite addr value

/-- The instruction a bus word spells, none for the malformed read word (30_encoding.md R302). -/
def decode (w : BusWord) : Option Instr :=
  if busIsWrite w then some (decodeWrite (busAddr w) (busData w))
  else if busData w = 0x00 then some (.regRead (busAddr w))
  else none

/-- The instruction in a table row's bits. The table numbers a BUS17 word's bits as R302 does, so the number is the
word itself, and the row's width adds nothing. -/
def decodeTableWord (_nbits w : Nat) : Option Instr := decode (BitVec.ofNat 17 w)

/-- The bus word of an instruction, from the match values of the command map (30_encoding.md R302, R304). -/
def encode (i : Instr) : BusWord :=
  match i with
  | .nop => busWrite 0x00 0x00
  | .crcInit => busWrite 0x00 0x01
  | .clearErr => busWrite 0x00 0x02
  | .crcUpdate0 => busWrite 0x00 0x10
  | .crcUpdate1 => busWrite 0x00 0x11
  | .crcUpdate2 => busWrite 0x00 0x12
  | .crcUpdate3 => busWrite 0x00 0x13
  | .crcUpdate4 => busWrite 0x00 0x14
  | .crcUpdate5 => busWrite 0x00 0x15
  | .crcUpdate6 => busWrite 0x00 0x16
  | .crcUpdate7 => busWrite 0x00 0x17
  | .crcUpdate8 => busWrite 0x00 0x18
  | .descramble => busWrite 0x00 0x20
  | .bitrev => busWrite 0x00 0x21
  | .decode => busWrite 0x00 0x30
  | .decodeLegacy => busWrite 0x00 0x31
  | .decodeEnhanced => busWrite 0x00 0x32
  | .softReset => busWrite 0x00 0xF0
  | .regRead addr => busRead addr
  | .regWrite addr value => busWrite addr value

end Sys2Proof
end

