-- ==== Sys2Proof/Config.lean ====
section
/-!
DEFINITION. What the spec leaves to the implementation: opaque constants with no body, so no proof can know a
value of them. They are the contents of the constant tables (00_scope.md R7, decision D35) and the bytes the
capture buffer draws at a power-on reset (10_state.md R132, decision D32).
-/

namespace Sys2Proof.Config

/-- The 39 scrambling bytes, an OPEN parameter (00_scope.md R7, 10_state.md R142; log entry 1). -/
opaque scramble : Vector Byte 39

/-- The legacy, plain correction table, an OPEN parameter (00_scope.md R7, 10_state.md R141; log entry 1). -/
opaque xorPlLeg : Vector Word16 35

/-- The legacy, scrambled correction table, an OPEN parameter (00_scope.md R7, 10_state.md R141; log entry 1). -/
opaque xorScLeg : Vector Word16 35

/-- The enhanced, plain correction table, an OPEN parameter (00_scope.md R7, 10_state.md R141; log entry 1). -/
opaque xorPlEnh : Vector Word16 35

/-- The enhanced, scrambled correction table, an OPEN parameter (00_scope.md R7, 10_state.md R141; log entry 1). -/
opaque xorScEnh : Vector Word16 35

/-- The free value of one CAP byte after one power-on reset: the first argument numbers the reset, the second is
the byte's index (10_state.md R132, 93_implementation_defined.md I3; log entry 2). -/
opaque capPowerOn : Nat → Fin 32 → Byte

end Sys2Proof.Config
end

