-- ==== Sys2Proof/Machine/State.lean ====
section
/-!
DEFINITION. The state of the block and of its host, as plain data, and the state right after a power-on reset.
The block's registers and tables are those of 10_state.md R103. CMD holds no state (R112), and the decoder's
accumulators DEC_CRC and DEC_TRIAL exist only inside one command (R151), so neither is a field. The host keeps its
own list of accesses, its index into it and the values its reads returned (R102, decision D37).
-/

namespace Sys2Proof.Machine

/-- The address lengths, the only legal values of ADDR_LEN (10_state.md R110). -/
inductive AddrLen where
  | three
  | four
  | five
  deriving DecidableEq, Repr

/-- The result registers, DOC's FrameDescriptor (10_state.md R121 to R127). -/
structure Results where
  /-- FLAGS, 8 bits (R121). -/
  flags : Byte
  /-- FRAME_LEN, 8 bits (R122). -/
  frameLen : Byte
  /-- RES_ADDR_LEN, 8 bits (R123). -/
  resAddrLen : Byte
  /-- PAYLOAD_LEN, 8 bits (R124). -/
  payloadLen : Byte
  /-- PCF_LEN, 8 bits (R125). -/
  pcfLen : Byte
  /-- ADDR_OUT[0..4] (R126). -/
  addrOut : Vector Byte 5
  /-- PAYLOAD_OUT[0..26] (R127). -/
  payloadOut : Vector Byte 27
  deriving DecidableEq, Repr

/-- The read-only tables (10_state.md R141, R142). No access and no reset changes them (R160). -/
structure Tables where
  /-- SCRAMBLE[0..38] (R142). -/
  scramble : Vector Byte 39
  /-- XOR_PL_LEG[0..34] (R141). -/
  xorPlLeg : Vector Word16 35
  /-- XOR_SC_LEG[0..34] (R141). -/
  xorScLeg : Vector Word16 35
  /-- XOR_PL_ENH[0..34] (R141). -/
  xorPlEnh : Vector Word16 35
  /-- XOR_SC_ENH[0..34] (R141). -/
  xorScEnh : Vector Word16 35
  deriving DecidableEq, Repr

/-- The outside of the block: its one host (10_state.md R101, R102) and the platform's power-on resets
(70_reset_and_hazards.md R701). Only the step around an access moves `pc` and `powerOns`; only REG_READ writes
`reads`; nothing in the model writes `program`. -/
structure HostSide where
  /-- The host's list of bus accesses, each a BUS17 word (R102, 30_encoding.md R302). -/
  program : List BusWord
  /-- The host's index into `program`, one further after each access (R102). -/
  pc : Nat
  /-- The values the host's reads returned, oldest first (decision D37). -/
  reads : List Byte
  /-- When the platform asserts the power-on reset: one entry per reset, next first, due when `pc` has reached it
  (70_reset_and_hazards.md R701; log entry 5). -/
  powerOns : List Nat
  deriving DecidableEq, Repr

/-- Everything the spec gives the machine. -/
structure State where
  /-- DATA, 8 bits (10_state.md R104). -/
  data : Byte
  /-- OFFSET, an 8-bit register whose legal values are the table indices 0..38 (R105). -/
  offset : Fin 39
  /-- RESULT, 8 bits (R106). -/
  result : Byte
  /-- CRC_STATE, 16 bits (R107). -/
  crcState : Word16
  /-- CRC_POLY, 16 bits (R108). -/
  crcPoly : Word16
  /-- CRC_SEED, 16 bits (R109). -/
  crcSeed : Word16
  /-- ADDR_LEN, an 8-bit register whose legal values are 3, 4 and 5 (R110). -/
  addrLen : AddrLen
  /-- CAP_LEN, an 8-bit register whose legal values are 0..32 (R111). -/
  capLen : Fin 33
  /-- STATUS, 8 bits: ERR in bit 7, RES in bits 2:0 (R113). -/
  status : Byte
  /-- ERRCODE, 8 bits (R115). -/
  errCode : Byte
  /-- FLAGS, FRAME_LEN, RES_ADDR_LEN, PAYLOAD_LEN, PCF_LEN, ADDR_OUT and PAYLOAD_OUT (R121 to R127). -/
  results : Results
  /-- CAP[0..31], the capture buffer (R131). -/
  cap : Vector Byte 32
  /-- The constant tables (R141, R142). -/
  tables : Tables
  /-- The model's own counter, not the spec's: how many power-on resets have drawn CAP (log entry 2). -/
  capDraws : Nat
  /-- The host and the platform around the block (R101, R102, R701). -/
  host : HostSide
  deriving DecidableEq, Repr

/-- A step that stops the machine. There is none: the block has no trap and no halt (60_exceptions.md R601, R606),
an interface error is a record in STATUS and ERRCODE, and every instruction completes in every state. -/
inductive Fault where
  deriving DecidableEq, Repr

/-- A step the model gives no meaning. -/
inductive Refusal where
  /-- Raised by exec's arm of an instruction that has no meaning yet. No arm raises it. Safe. -/
  | notModelled (mnemonic : String)
  /-- Raised by step when the host's next word is a read whose DATA is not 0x00, which spells no access
  (30_encoding.md R302, 93_implementation_defined.md I11). Safe. -/
  | malformedReadWord
  deriving DecidableEq, Repr

/-- Every result register at 0x00 (10_state.md R160, 42_frame_decoder.md R442). -/
def Results.cleared : Results where
  flags := 0x00
  frameLen := 0x00
  resAddrLen := 0x00
  payloadLen := 0x00
  pcfLen := 0x00
  addrOut := Vector.replicate 5 0x00
  payloadOut := Vector.replicate 27 0x00

/-- The machine right after a power-on reset (10_state.md R160, 70_reset_and_hazards.md R702): the spec's reset
values, CAP drawn as free values, the tables at the parameters of 00_scope.md R7, and a host with nothing to do
(log entries 1, 2, 4). -/
def State.reset : State where
  data := 0x00
  offset := 0
  result := 0x00
  crcState := 0xB5D2
  crcPoly := 0x1021
  crcSeed := 0xB5D2
  addrLen := .five
  capLen := 0
  status := 0x00
  errCode := 0x00
  results := Results.cleared
  cap := Vector.ofFn (Config.capPowerOn 0)
  tables :=
    { scramble := Config.scramble
      xorPlLeg := Config.xorPlLeg
      xorScLeg := Config.xorScLeg
      xorPlEnh := Config.xorPlEnh
      xorScEnh := Config.xorScEnh }
  capDraws := 1
  host := { program := [], pc := 0, reads := [], powerOns := [] }

end Sys2Proof.Machine
end

