-- ==== Sys2Proof/Machine/Flags.lean ====
section
/-!
DEFINITION. The bit fields of the status registers: STATUS.ERR and STATUS.RES (10_state.md R113, R114), the ERRCODE
codes (R115) and the fields of FLAGS (R121).
-/

namespace Sys2Proof.Machine

/-- The four interface errors (60_exceptions.md R602). -/
inductive ErrorKind where
  | reservedCmd
  | illegalValue
  | writeRo
  | reservedAddr
  deriving DecidableEq, Repr

/-- The code ERRCODE holds for an error (10_state.md R115, 60_exceptions.md R602). -/
def errorCode (e : ErrorKind) : Byte :=
  match e with
  | .reservedCmd => 0x01
  | .illegalValue => 0x02
  | .writeRo => 0x03
  | .reservedAddr => 0x04

/-- The outcomes a decode command leaves in STATUS.RES (10_state.md R114; NONE is only the reset value). -/
inductive DecodeResult where
  | legacyOk
  | enhancedOk
  | noMatch
  | enhLenErr
  deriving DecidableEq, Repr

/-- The STATUS.RES code of an outcome (10_state.md R114). -/
def resultCode (r : DecodeResult) : BitVec 3 :=
  match r with
  | .legacyOk => 1
  | .enhancedOk => 2
  | .noMatch => 3
  | .enhLenErr => 4

/-- STATUS.ERR, bit 7 (10_state.md R113). -/
def statusErr (status : Byte) : Bool := status.getLsbD 7

/-- STATUS.RES, bits 2:0 (10_state.md R113). -/
def statusRes (status : Byte) : BitVec 3 := status.extractLsb' 0 3

/-- STATUS with ERR set (60_exceptions.md R603). -/
def statusSetErr (status : Byte) : Byte := status ||| 0x80

/-- STATUS with ERR cleared (43_control.md R502). -/
def statusClearErr (status : Byte) : Byte := status &&& 0x7F

/-- STATUS with RES replaced (10_state.md R113, R114). -/
def statusWithRes (status : Byte) (code : BitVec 3) : Byte :=
  (status.extractLsb' 3 5 ++ code : BitVec (5 + 3))

/-- FLAGS from its fields: PID in 4:3, ACK in 2, SCR in 1, ENH in 0, and 0 above (10_state.md R121). -/
def flagsOf (enh scr ack : Bool) (pid : BitVec 2) : Byte :=
  (0#3 ++ pid ++ BitVec.ofBool ack ++ BitVec.ofBool scr ++ BitVec.ofBool enh : BitVec (3 + 2 + 1 + 1 + 1))

/-- FLAGS.ENH, bit 0 (10_state.md R121). -/
def flagsEnh (flags : Byte) : Bool := flags.getLsbD 0

/-- FLAGS.SCR, bit 1 (10_state.md R121). -/
def flagsScr (flags : Byte) : Bool := flags.getLsbD 1

/-- FLAGS.ACK, bit 2, the raw PCF bit: the spec gives it no polarity (10_state.md R121, decision D47). -/
def flagsAck (flags : Byte) : Bool := flags.getLsbD 2

/-- FLAGS.PID, bits 4:3 (10_state.md R121). -/
def flagsPid (flags : Byte) : BitVec 2 := flags.extractLsb' 3 2

end Sys2Proof.Machine
end

