-- ==== Sys2Proof/Machine/Ops.lean ====
section
/-!
DEFINITION. The named operations over the registers: one setter per register, the bytes of a 16-bit register, the
recording of an interface error and its clearing, the two resets, and the host's fetch.
-/

namespace Sys2Proof.Machine

/-- DATA takes a value. -/
def State.setData (s : State) (v : Byte) : State := { s with data := v }

/-- OFFSET takes a legal value. -/
def State.setOffset (s : State) (v : Fin 39) : State := { s with offset := v }

/-- RESULT takes a value. -/
def State.setResult (s : State) (v : Byte) : State := { s with result := v }

/-- CRC_STATE takes a value. -/
def State.setCrcState (s : State) (v : Word16) : State := { s with crcState := v }

/-- CRC_POLY takes a value. -/
def State.setCrcPoly (s : State) (v : Word16) : State := { s with crcPoly := v }

/-- CRC_SEED takes a value. -/
def State.setCrcSeed (s : State) (v : Word16) : State := { s with crcSeed := v }

/-- ADDR_LEN takes a legal value. -/
def State.setAddrLen (s : State) (v : AddrLen) : State := { s with addrLen := v }

/-- CAP_LEN takes a legal value. -/
def State.setCapLen (s : State) (v : Fin 33) : State := { s with capLen := v }

/-- STATUS takes a value. -/
def State.setStatus (s : State) (v : Byte) : State := { s with status := v }

/-- ERRCODE takes a value. -/
def State.setErrCode (s : State) (v : Byte) : State := { s with errCode := v }

/-- The result registers take their values. -/
def State.setResults (s : State) (v : Results) : State := { s with results := v }

/-- CAP[k] takes a value. -/
def State.setCap (s : State) (k : Fin 32) (v : Byte) : State := { s with cap := s.cap.set k v }

/-- The host's side takes a value. -/
def State.setHost (s : State) (v : HostSide) : State := { s with host := v }

/-- Bits 7:0 of a 16-bit register (20_memory.md R206). -/
def loByte (v : Word16) : Byte := v.extractLsb' 0 8

/-- Bits 15:8 of a 16-bit register (20_memory.md R206). -/
def hiByte (v : Word16) : Byte := v.extractLsb' 8 8

/-- A 16-bit register with bits 7:0 replaced (10_state.md R107, 20_memory.md R206). -/
def withLoByte (v : Word16) (b : Byte) : Word16 := (hiByte v ++ b : BitVec (8 + 8))

/-- A 16-bit register with bits 15:8 replaced (10_state.md R107, 20_memory.md R206). -/
def withHiByte (v : Word16) (b : Byte) : Word16 := (b ++ loByte v : BitVec (8 + 8))

/-- `raise Error(code)`: the first code since ERR was clear is kept, and ERR is set (60_exceptions.md R603). This is
all the block has of taking an exception: no trap, no saved pc, no mode (R601). -/
def raiseError (e : ErrorKind) (s : State) : State :=
  (if statusErr s.status then s else s.setErrCode (errorCode e)).setStatus (statusSetErr s.status)

/-- Clearing the error record, the only return from an error besides a reset (60_exceptions.md R606,
43_control.md R502). -/
def clearErrorRecord (s : State) : State := (s.setStatus (statusClearErr s.status)).setErrCode 0x00

/-- Every register at its reset value, but CAP as given (10_state.md R160). The tables are constants and the host is
outside the block, so both stay. -/
def resetRegisters (s : State) : State :=
  { s with
    data := 0x00
    offset := 0
    result := 0x00
    crcState := 0xB5D2
    crcPoly := 0x1021
    crcSeed := 0xB5D2
    addrLen := .five
    capLen := 0
    status := 0x00
    errCode := 0x00
    results := Results.cleared }

/-- A power-on reset: the reset values, and every CAP byte drawn afresh (70_reset_and_hazards.md R701, R702,
10_state.md R132; log entries 2 and 5). -/
def powerOnReset (s : State) : State :=
  { resetRegisters s with
    cap := Vector.ofFn (Config.capPowerOn s.capDraws)
    capDraws := s.capDraws + 1 }

/-- The power-on reset the platform asserts before the host's next access, if one is due: the resets still to come
after it (70_reset_and_hazards.md R701; log entry 5). -/
def duePowerOn (h : HostSide) : Option (List Nat) :=
  match h.powerOns with
  | [] => none
  | n :: rest => if n ≤ h.pc then some rest else none

/-- The host's next access, none when its program has ended (10_state.md R102, decision D37). -/
def fetchWord (h : HostSide) : Option BusWord := h.program[h.pc]?

/-- The host's index moves past one access (10_state.md R102). -/
def advance (s : State) : State := s.setHost { s.host with pc := s.host.pc + 1 }

/-- A read returns a byte to the host, which keeps it (43_control.md R504, decision D37). -/
def returnToHost (v : Byte) (s : State) : State := s.setHost { s.host with reads := s.host.reads ++ [v] }

/-- The host with a word placed as its next access: the word replaces the one at the index, NOP words fill the gap
where the index lies past the end, and no power-on reset is due before it (log entry 12). -/
def placeWord (h : HostSide) (w : BusWord) : HostSide :=
  { h with
    program := h.program.takeD h.pc 0x10000 ++ w :: h.program.drop (h.pc + 1)
    powerOns := h.powerOns.dropWhile (fun n => decide (n ≤ h.pc)) }

end Sys2Proof.Machine
end

