-- ==== Sys2Proof/Machine/Control.lean ====
section
/-!
DEFINITION. The control commands NOP (43_control.md R501), CLEAR_ERR (R502) and SOFT_RESET (R503).
-/

namespace Sys2Proof.Machine

/-- The effect of NOP: nothing (43_control.md R501). -/
def noOperation (s : State) : State := s

/-- The effect of CLEAR_ERR: STATUS.ERR <- 0, ERRCODE <- 0x00 (43_control.md R502). -/
def clearErr (s : State) : State := clearErrorRecord s

/-- The effect of SOFT_RESET: the reset values, with CAP unchanged (43_control.md R503, 70_reset_and_hazards.md
R703). -/
def softReset (s : State) : State := resetRegisters s

/-- NOP (43_control.md R501). -/
def execNop (s : State) : Host.Outcome State Fault Refusal := .next (noOperation s)

/-- CLEAR_ERR (43_control.md R502). -/
def execClearErr (s : State) : Host.Outcome State Fault Refusal := .next (clearErr s)

/-- SOFT_RESET (43_control.md R503). -/
def execSoftReset (s : State) : Host.Outcome State Fault Refusal := .next (softReset s)

end Sys2Proof.Machine
end

