-- ==== Sys2Proof/Machine/Crc.lean ====
section
/-!
DEFINITION. The CRC engine: the primitive `crc_update` (41_crc_engine.md R421) and the commands CRC_INIT (R423) and
CRC_UPDATE.0 to CRC_UPDATE.8 (R424).
-/

namespace Sys2Proof.Machine

/-- One iteration of the shift loop: the vacated top bit selects the XOR with the polynomial (41_crc_engine.md
R421). -/
def crcShift (poly s : Word16) : Word16 := if s.getLsbD 15 then (s <<< 1) ^^^ poly else s <<< 1

/-- The shift loop, run exactly `n` times (41_crc_engine.md R421). -/
def crcShifts (poly : Word16) (n : Nat) (s : Word16) : Word16 :=
  match n with
  | 0 => s
  | k + 1 => crcShifts poly k (crcShift poly s)

/-- `crc_update(s, b, n, poly)` (41_crc_engine.md R421). All 8 bits of `b` enter whatever `n` is. -/
def crcUpdate (s : Word16) (b : Byte) (n : Nat) (poly : Word16) : Word16 :=
  crcShifts poly n (s ^^^ (b.setWidth 16 <<< 8))

/-- CRC_STATE <- CRC_SEED (41_crc_engine.md R423). -/
def crcInit (s : State) : State := s.setCrcState s.crcSeed

/-- CRC_STATE <- crc_update(CRC_STATE, DATA, n, CRC_POLY) (41_crc_engine.md R424). -/
def crcUpdateState (n : Nat) (s : State) : State := s.setCrcState (crcUpdate s.crcState s.data n s.crcPoly)

/-- CRC_INIT (41_crc_engine.md R423). -/
def execCrcInit (s : State) : Host.Outcome State Fault Refusal := .next (crcInit s)

/-- CRC_UPDATE.0: only the XOR, no shift (41_crc_engine.md R424). -/
def execCrcUpdate0 (s : State) : Host.Outcome State Fault Refusal := .next (crcUpdateState 0 s)

/-- CRC_UPDATE.1 (41_crc_engine.md R424). -/
def execCrcUpdate1 (s : State) : Host.Outcome State Fault Refusal := .next (crcUpdateState 1 s)

/-- CRC_UPDATE.2 (41_crc_engine.md R424). -/
def execCrcUpdate2 (s : State) : Host.Outcome State Fault Refusal := .next (crcUpdateState 2 s)

/-- CRC_UPDATE.3 (41_crc_engine.md R424). -/
def execCrcUpdate3 (s : State) : Host.Outcome State Fault Refusal := .next (crcUpdateState 3 s)

/-- CRC_UPDATE.4 (41_crc_engine.md R424). -/
def execCrcUpdate4 (s : State) : Host.Outcome State Fault Refusal := .next (crcUpdateState 4 s)

/-- CRC_UPDATE.5 (41_crc_engine.md R424). -/
def execCrcUpdate5 (s : State) : Host.Outcome State Fault Refusal := .next (crcUpdateState 5 s)

/-- CRC_UPDATE.6 (41_crc_engine.md R424). -/
def execCrcUpdate6 (s : State) : Host.Outcome State Fault Refusal := .next (crcUpdateState 6 s)

/-- CRC_UPDATE.7 (41_crc_engine.md R424). -/
def execCrcUpdate7 (s : State) : Host.Outcome State Fault Refusal := .next (crcUpdateState 7 s)

/-- CRC_UPDATE.8 (41_crc_engine.md R424). -/
def execCrcUpdate8 (s : State) : Host.Outcome State Fault Refusal := .next (crcUpdateState 8 s)

end Sys2Proof.Machine
end

