-- ==== Sys2Proof/Machine/Descrambler.lean ====
section
/-!
DEFINITION. The descrambler and the bit reversal (40_tables_descrambler.md R401, R402) and their commands DESCRAMBLE
(R403) and BITREV (R404).
-/

namespace Sys2Proof.Machine

/-- `bit_reverse(b)`: bit j of the result is bit 7 - j of `b` (40_tables_descrambler.md R401). -/
def bitReverse (b : Byte) : Byte := b.reverse

/-- `descramble(b, k)`: XOR with the table entry at stream offset k (40_tables_descrambler.md R402). -/
def descrambleByte (t : Tables) (b : Byte) (k : Fin 39) : Byte := b ^^^ t.scramble[k]

/-- RESULT <- DATA xor SCRAMBLE[OFFSET] (40_tables_descrambler.md R403). -/
def descrambleData (s : State) : State := s.setResult (descrambleByte s.tables s.data s.offset)

/-- RESULT <- bit_reverse(DATA) (40_tables_descrambler.md R404). -/
def bitReverseData (s : State) : State := s.setResult (bitReverse s.data)

/-- DESCRAMBLE (40_tables_descrambler.md R403). -/
def execDescramble (s : State) : Host.Outcome State Fault Refusal := .next (descrambleData s)

/-- BITREV (40_tables_descrambler.md R404). -/
def execBitrev (s : State) : Host.Outcome State Fault Refusal := .next (bitReverseData s)

end Sys2Proof.Machine
end

