-- ==== Sys2Proof/Machine/Operands.lean ====
section
/-!
DEFINITION. The operand forms. The one addressing mode is an absolute register address (43_control.md R504), which
reaches the register byte of the address map (20_memory.md R205). Range-checked registers convert between their
byte and their legal value (10_state.md R105, R110, R111).
-/

namespace Sys2Proof.Machine

/-- What one address of the register space reaches (20_memory.md R205). -/
inductive RegByte where
  | cmd
  | status
  | errCode
  | crcStateLo
  | crcStateHi
  | crcPolyLo
  | crcPolyHi
  | crcSeedLo
  | crcSeedHi
  | data
  | offset
  | result
  | addrLen
  | capLen
  | flags
  | frameLen
  | resAddrLen
  | payloadLen
  | pcfLen
  | addrOut (k : Fin 5)
  | cap (k : Fin 32)
  | payloadOut (k : Fin 27)
  | scrTable (k : Fin 39)
  | reserved
  deriving DecidableEq, Repr

/-- The arrays of the register space by address, everything else reserved (20_memory.md R205). -/
def arrayAt (a : Nat) : RegByte :=
  if h : 0x18 ≤ a ∧ a ≤ 0x1C then .addrOut ⟨a - 0x18, by omega⟩
  else if h : 0x20 ≤ a ∧ a ≤ 0x3F then .cap ⟨a - 0x20, by omega⟩
  else if h : 0x40 ≤ a ∧ a ≤ 0x5A then .payloadOut ⟨a - 0x40, by omega⟩
  else if h : 0x60 ≤ a ∧ a ≤ 0x86 then .scrTable ⟨a - 0x60, by omega⟩
  else .reserved

/-- The address map (20_memory.md R205). -/
def regAt (a : Byte) : RegByte :=
  match a.toNat with
  | 0x00 => .cmd
  | 0x01 => .status
  | 0x02 => .errCode
  | 0x04 => .crcStateLo
  | 0x05 => .crcStateHi
  | 0x06 => .crcPolyLo
  | 0x07 => .crcPolyHi
  | 0x08 => .crcSeedLo
  | 0x09 => .crcSeedHi
  | 0x0A => .data
  | 0x0B => .offset
  | 0x0C => .result
  | 0x0D => .addrLen
  | 0x0E => .capLen
  | 0x10 => .flags
  | 0x11 => .frameLen
  | 0x12 => .resAddrLen
  | 0x13 => .payloadLen
  | 0x14 => .pcfLen
  | n => arrayAt n

/-- An address length as a number of bytes (10_state.md R110). -/
def addrLenNat (a : AddrLen) : Nat :=
  match a with
  | .three => 3
  | .four => 4
  | .five => 5

/-- An address length as a register byte (10_state.md R110). -/
def addrLenByte (a : AddrLen) : Byte := BitVec.ofNat 8 (addrLenNat a)

/-- The address length a byte names, none for an illegal value (10_state.md R110). -/
def addrLenOf (v : Byte) : Option AddrLen :=
  match v.toNat with
  | 3 => some .three
  | 4 => some .four
  | 5 => some .five
  | _ => none

/-- The OFFSET a byte names, none above 38 (10_state.md R105). -/
def offsetOf (v : Byte) : Option (Fin 39) :=
  if h : v.toNat < 39 then some ⟨v.toNat, h⟩ else none

/-- The CAP_LEN a byte names, none above 32 (10_state.md R111). -/
def capLenOf (v : Byte) : Option (Fin 33) :=
  if h : v.toNat < 33 then some ⟨v.toNat, h⟩ else none

end Sys2Proof.Machine
end

