-- ==== Sys2Proof/Machine/FrameDecoder.lean ====
section
/-!
DEFINITION. The frame decoder: the two passes over the capture (42_frame_decoder.md R443 to R454) and the commands
DECODE (R441), DECODE_LEGACY (R456) and DECODE_ENHANCED (R457). The accumulators DEC_CRC and DEC_TRIAL, the
candidate index and the view U live only inside these definitions (10_state.md R151). Every index a rule uses lies
inside its array; the lookups read 0 outside, which no decode reaches (log entry 9).
-/

namespace Sys2Proof.Machine

/-- The scrambling hypotheses PL and SC (42_frame_decoder.md R443). -/
inductive Hypothesis where
  | plain
  | scrambled
  deriving DecidableEq, Repr

/-- A matched candidate: its frame length L and the hypothesis that matched (42_frame_decoder.md R445, R448). -/
structure FrameMatch where
  frameLen : Nat
  hyp : Hypothesis
  deriving DecidableEq, Repr

/-- What a decode command ends with: the STATUS.RES outcome and the result registers. -/
structure DecodeOutcome where
  res : DecodeResult
  results : Results
  deriving DecidableEq, Repr

/-- CAP[k], raw (10_state.md R131). -/
def capByte (s : State) (k : Nat) : Byte := (s.cap[k]?).getD 0x00

/-- `mask(h, k)` (42_frame_decoder.md R443). -/
def maskByte (s : State) (h : Hypothesis) (k : Nat) : Byte :=
  match h with
  | .plain => 0x00
  | .scrambled => (s.tables.scramble[k]?).getD 0x00

/-- The descrambled view U[k] (42_frame_decoder.md R451). -/
def viewByte (s : State) (h : Hypothesis) (k : Nat) : Byte := capByte s k ^^^ maskByte s h k

/-- The legacy correction table of a hypothesis (42_frame_decoder.md R446). -/
def legacyTable (t : Tables) (h : Hypothesis) : Vector Word16 35 :=
  match h with
  | .plain => t.xorPlLeg
  | .scrambled => t.xorScLeg

/-- The enhanced correction table of a hypothesis (42_frame_decoder.md R450). -/
def enhancedTable (t : Tables) (h : Hypothesis) : Vector Word16 35 :=
  match h with
  | .plain => t.xorPlEnh
  | .scrambled => t.xorScEnh

/-- The correction entry of a frame length: the index is frame length minus 3 (10_state.md R141). -/
def correction (t : Vector Word16 35) (frameLen : Nat) : Word16 := (t[frameLen - 3]?).getD 0x0000

/-- `upd(c, CAP[k], 8)`: the running CRC takes one raw capture byte (42_frame_decoder.md R444). -/
def crcOverCap (s : State) (c : Word16) (k : Nat) : Word16 := crcUpdate c (capByte s k) 8 s.crcPoly

/-- The hypotheses at one candidate: PL before SC (42_frame_decoder.md R443). -/
def firstHypothesis (test : Hypothesis → Bool) : Option Hypothesis :=
  if test .plain then some .plain else if test .scrambled then some .scrambled else none

/-- The candidate loop of both passes: at each index the running CRC takes the byte, then the candidate is tested;
the first match in ascending index ends it (42_frame_decoder.md R445, R448). -/
def searchCandidates (s : State) (test : Word16 → Nat → Option Hypothesis) (crc : Word16) (is : List Nat) :
    Option (Nat × Hypothesis) :=
  match is with
  | [] => none
  | i :: rest =>
    match test (crcOverCap s crc i) i with
    | some h => some (i, h)
    | none => searchCandidates s test (crcOverCap s crc i) rest

/-- `legacy_match(i, L, h)` with L = i + 1 (42_frame_decoder.md R446). -/
def legacyMatch (s : State) (crc : Word16) (i : Nat) (h : Hypothesis) : Bool :=
  let r := crc ^^^ correction (legacyTable s.tables h) (i + 1)
  hiByte r == capByte s (i + 1) && loByte r == capByte s (i + 2)

/-- The running CRC over the address bytes, from the seed (42_frame_decoder.md R444). -/
def legacyStart (s : State) : Word16 := (List.range (addrLenNat s.addrLen)).foldl (crcOverCap s) s.crcSeed

/-- Pass 1: candidates i = A .. 29 with L = i + 1 (42_frame_decoder.md R445). -/
def legacyPass (s : State) : Option FrameMatch :=
  (searchCandidates s (fun crc i => firstHypothesis (legacyMatch s crc i)) (legacyStart s)
    (List.range' (addrLenNat s.addrLen) (30 - addrLenNat s.addrLen))).map fun m => ⟨m.1 + 1, m.2⟩

/-- DEC_TRIAL: the running CRC with the top two bits of the next byte folded in (42_frame_decoder.md R449). -/
def trialCrc (s : State) (crc : Word16) (i : Nat) : Word16 := crcUpdate crc (capByte s (i + 1) &&& 0xC0) 2 s.crcPoly

/-- V: the 16 stream bits after the two folded ones (42_frame_decoder.md R449). -/
def onAirCrc (s : State) (i : Nat) : Word16 :=
  ((capByte s (i + 1)).extractLsb' 0 6 ++ capByte s (i + 2) ++ (capByte s (i + 3)).extractLsb' 6 2 :
    BitVec (6 + 8 + 2))

/-- `enhanced_match(i, h)`, with frame length L = i (42_frame_decoder.md R450). -/
def enhancedMatch (s : State) (crc : Word16) (i : Nat) (h : Hypothesis) : Bool :=
  trialCrc s crc i ^^^ correction (enhancedTable s.tables h) i == onAirCrc s i

/-- Pass 2: the CRC restarts at CAP[0]; the candidates are i = 3 .. 28 with L = i (42_frame_decoder.md R448). -/
def enhancedPass (s : State) : Option FrameMatch :=
  (searchCandidates s
    (fun crc i => if 3 ≤ i then firstHypothesis (enhancedMatch s crc i) else none)
    s.crcSeed (List.range 29)).map fun m => ⟨m.1, m.2⟩

/-- ADDR_OUT: the address bytes of U in reversed order, 0x00 from `a` on (42_frame_decoder.md R447, R454). -/
def addrOutOf (s : State) (h : Hypothesis) (a : Nat) : Vector Byte 5 :=
  Vector.ofFn fun k => if k.val < a then viewByte s h (a - 1 - k.val) else 0x00

/-- The result registers of a legacy match (42_frame_decoder.md R447, over the cleared ones of R442). -/
def legacyResults (s : State) (m : FrameMatch) : Results :=
  let a := addrLenNat s.addrLen
  { flags := flagsOf false (m.hyp == .scrambled) false 0
    frameLen := BitVec.ofNat 8 m.frameLen
    resAddrLen := BitVec.ofNat 8 a
    payloadLen := BitVec.ofNat 8 (m.frameLen - a)
    pcfLen := 0x00
    addrOut := addrOutOf s m.hyp a
    payloadOut := Vector.ofFn fun j =>
      if j.val < m.frameLen - a then bitReverse (viewByte s m.hyp (a + j.val)) else 0x00 }

/-- `pcf_len(a)` = U[a][7:1] (42_frame_decoder.md R452). -/
def pcfLenField (s : State) (h : Hypothesis) (a : Nat) : BitVec 7 := (viewByte s h a).extractLsb' 1 7

/-- The protocol id U[a][0] ‖ U[a+1][7] (42_frame_decoder.md R452). -/
def pcfPid (s : State) (h : Hypothesis) (a : Nat) : BitVec 2 :=
  ((viewByte s h a).extractLsb' 0 1 ++ (viewByte s h (a + 1)).extractLsb' 7 1 : BitVec (1 + 1))

/-- The ack bit U[a+1][6] (42_frame_decoder.md R452). -/
def pcfAck (s : State) (h : Hypothesis) (a : Nat) : Bool := (viewByte s h (a + 1)).getLsbD 6

/-- The PCF length agrees with an address length: an integer comparison, where L - a may be negative
(42_frame_decoder.md R452, 00_scope.md R9). -/
def pcfConsistent (s : State) (m : FrameMatch) (a : AddrLen) : Bool :=
  ((pcfLenField s m.hyp (addrLenNat a)).toNat : Int) == (m.frameLen : Int) - (addrLenNat a : Int)

/-- A': ADDR_LEN unless it disagrees with the PCF length, and then the last consistent length of 3, 4, 5, if any
(42_frame_decoder.md R452). -/
def resolvedAddrLen (s : State) (m : FrameMatch) : AddrLen :=
  if pcfConsistent s m s.addrLen then s.addrLen
  else [AddrLen.three, AddrLen.four, AddrLen.five].foldl
    (fun best a => if pcfConsistent s m a then a else best) s.addrLen

/-- Payload byte j of an enhanced frame: 8 stream bits, 2 bits off the byte boundary, reversed
(42_frame_decoder.md R454). -/
def enhancedPayloadByte (s : State) (h : Hypothesis) (a j : Nat) : Byte :=
  bitReverse ((viewByte s h (a + 1 + j)).extractLsb' 0 6 ++ (viewByte s h (a + 2 + j)).extractLsb' 6 2 :
    BitVec (6 + 2))

/-- The result registers of an enhanced match whose address fits (42_frame_decoder.md R452, R454). -/
def enhancedResults (s : State) (m : FrameMatch) (a : Nat) : Results :=
  { flags := flagsOf true (m.hyp == .scrambled) (pcfAck s m.hyp a) (pcfPid s m.hyp a)
    frameLen := BitVec.ofNat 8 m.frameLen
    resAddrLen := BitVec.ofNat 8 a
    payloadLen := BitVec.ofNat 8 (m.frameLen - a)
    pcfLen := (pcfLenField s m.hyp a).setWidth 8
    addrOut := addrOutOf s m.hyp a
    payloadOut := Vector.ofFn fun j =>
      if j.val < m.frameLen - a then enhancedPayloadByte s m.hyp a j.val else 0x00 }

/-- The result registers of an enhanced match with no room for its address (42_frame_decoder.md R453). -/
def enhLenErrResults (s : State) (m : FrameMatch) (a : Nat) : Results :=
  { Results.cleared with
    flags := flagsOf true (m.hyp == .scrambled) false 0
    frameLen := BitVec.ofNat 8 m.frameLen
    resAddrLen := BitVec.ofNat 8 a
    pcfLen := (pcfLenField s m.hyp a).setWidth 8 }

/-- How a pass-1 match ends a command (42_frame_decoder.md R447). -/
def legacyEnd (s : State) (m : FrameMatch) : DecodeOutcome := ⟨.legacyOk, legacyResults s m⟩

/-- How a pass-2 match ends a command (42_frame_decoder.md R453, R454). -/
def enhancedEnd (s : State) (m : FrameMatch) : DecodeOutcome :=
  let a := addrLenNat (resolvedAddrLen s m)
  if a ≤ m.frameLen then ⟨.enhancedOk, enhancedResults s m a⟩ else ⟨.enhLenErr, enhLenErrResults s m a⟩

/-- No match: every result register keeps 0x00 (42_frame_decoder.md R455). -/
def noMatchEnd : DecodeOutcome := ⟨.noMatch, Results.cleared⟩

/-- A decode command writes STATUS.RES and the result registers and nothing else (42_frame_decoder.md R458). -/
def writeOutcome (s : State) (o : DecodeOutcome) : State :=
  (s.setResults o.results).setStatus (statusWithRes s.status (resultCode o.res))

/-- What DECODE_LEGACY finds (42_frame_decoder.md R456). -/
def legacyOutcome (s : State) : DecodeOutcome :=
  match legacyPass s with
  | some m => legacyEnd s m
  | none => noMatchEnd

/-- What DECODE_ENHANCED finds (42_frame_decoder.md R457). -/
def enhancedOutcome (s : State) : DecodeOutcome :=
  match enhancedPass s with
  | some m => enhancedEnd s m
  | none => noMatchEnd

/-- What DECODE finds: pass 2 runs only when pass 1 found nothing (42_frame_decoder.md R441). -/
def decodeOutcome (s : State) : DecodeOutcome :=
  match legacyPass s with
  | some m => legacyEnd s m
  | none => enhancedOutcome s

/-- The effect of DECODE (42_frame_decoder.md R441). -/
def decodeCapture (s : State) : State := writeOutcome s (decodeOutcome s)

/-- The effect of DECODE_LEGACY (42_frame_decoder.md R456). -/
def decodeCaptureLegacy (s : State) : State := writeOutcome s (legacyOutcome s)

/-- The effect of DECODE_ENHANCED (42_frame_decoder.md R457). -/
def decodeCaptureEnhanced (s : State) : State := writeOutcome s (enhancedOutcome s)

/-- DECODE (42_frame_decoder.md R441). -/
def execDecode (s : State) : Host.Outcome State Fault Refusal := .next (decodeCapture s)

/-- DECODE_LEGACY (42_frame_decoder.md R456). -/
def execDecodeLegacy (s : State) : Host.Outcome State Fault Refusal := .next (decodeCaptureLegacy s)

/-- DECODE_ENHANCED (42_frame_decoder.md R457). -/
def execDecodeEnhanced (s : State) : Host.Outcome State Fault Refusal := .next (decodeCaptureEnhanced s)

end Sys2Proof.Machine
end

