-- ==== Sys2Proof/Machine/HostAccess.lean ====
section
/-!
DEFINITION. The host's accesses: the value a read returns (20_memory.md R203), the effect of a write (R204), and the
instructions REG_READ (43_control.md R504) and REG_WRITE (R505).
-/

namespace Sys2Proof.Machine

/-- The current value of a register byte, 0x00 for CMD and a reserved address (20_memory.md R203). -/
def readRegByte (s : State) (r : RegByte) : Byte :=
  match r with
  | .cmd => 0x00
  | .status => s.status
  | .errCode => s.errCode
  | .crcStateLo => loByte s.crcState
  | .crcStateHi => hiByte s.crcState
  | .crcPolyLo => loByte s.crcPoly
  | .crcPolyHi => hiByte s.crcPoly
  | .crcSeedLo => loByte s.crcSeed
  | .crcSeedHi => hiByte s.crcSeed
  | .data => s.data
  | .offset => BitVec.ofNat 8 s.offset.val
  | .result => s.result
  | .addrLen => addrLenByte s.addrLen
  | .capLen => BitVec.ofNat 8 s.capLen.val
  | .flags => s.results.flags
  | .frameLen => s.results.frameLen
  | .resAddrLen => s.results.resAddrLen
  | .payloadLen => s.results.payloadLen
  | .pcfLen => s.results.pcfLen
  | .addrOut k => s.results.addrOut[k]
  | .cap k => s.cap[k]
  | .payloadOut k => s.results.payloadOut[k]
  | .scrTable k => s.tables.scramble[k]
  | .reserved => 0x00

/-- `MemRead(addr, 1)` (20_memory.md R203). -/
def memRead (s : State) (addr : Byte) : Byte := readRegByte s (regAt addr)

/-- A write to a range-checked register: the legal value is stored, any other raises ILLEGAL_VALUE
(20_memory.md R204 (c)). -/
def storeChecked {α : Type} (legal : Option α) (store : α → State) (s : State) : State :=
  match legal with
  | some v => store v
  | none => raiseError .illegalValue s

/-- The command a byte written to CMD executes, RESERVED_CMD for a reserved byte (20_memory.md R204 (a),
30_encoding.md R304, R307). -/
def runCommand (c : Byte) (s : State) : State :=
  match c.toNat with
  | 0x00 => noOperation s
  | 0x01 => crcInit s
  | 0x02 => clearErr s
  | 0x10 => crcUpdateState 0 s
  | 0x11 => crcUpdateState 1 s
  | 0x12 => crcUpdateState 2 s
  | 0x13 => crcUpdateState 3 s
  | 0x14 => crcUpdateState 4 s
  | 0x15 => crcUpdateState 5 s
  | 0x16 => crcUpdateState 6 s
  | 0x17 => crcUpdateState 7 s
  | 0x18 => crcUpdateState 8 s
  | 0x20 => descrambleData s
  | 0x21 => bitReverseData s
  | 0x30 => decodeCapture s
  | 0x31 => decodeCaptureLegacy s
  | 0x32 => decodeCaptureEnhanced s
  | 0xF0 => softReset s
  | _ => raiseError .reservedCmd s

/-- The effect of a write on the register byte its address reaches (20_memory.md R204). -/
def writeRegByte (r : RegByte) (v : Byte) (s : State) : State :=
  match r with
  | .cmd => runCommand v s
  | .status => raiseError .writeRo s
  | .errCode => raiseError .writeRo s
  | .crcStateLo => s.setCrcState (withLoByte s.crcState v)
  | .crcStateHi => s.setCrcState (withHiByte s.crcState v)
  | .crcPolyLo => s.setCrcPoly (withLoByte s.crcPoly v)
  | .crcPolyHi => s.setCrcPoly (withHiByte s.crcPoly v)
  | .crcSeedLo => s.setCrcSeed (withLoByte s.crcSeed v)
  | .crcSeedHi => s.setCrcSeed (withHiByte s.crcSeed v)
  | .data => s.setData v
  | .offset => storeChecked (offsetOf v) s.setOffset s
  | .result => raiseError .writeRo s
  | .addrLen => storeChecked (addrLenOf v) s.setAddrLen s
  | .capLen => storeChecked (capLenOf v) s.setCapLen s
  | .flags => raiseError .writeRo s
  | .frameLen => raiseError .writeRo s
  | .resAddrLen => raiseError .writeRo s
  | .payloadLen => raiseError .writeRo s
  | .pcfLen => raiseError .writeRo s
  | .addrOut _ => raiseError .writeRo s
  | .cap k => s.setCap k v
  | .payloadOut _ => raiseError .writeRo s
  | .scrTable _ => raiseError .writeRo s
  | .reserved => raiseError .reservedAddr s

/-- `MemWrite(addr, 1, v)` (20_memory.md R204). -/
def memWrite (addr v : Byte) (s : State) : State := writeRegByte (regAt addr) v s

/-- REG_READ: the host receives the byte, and nothing in the block changes (43_control.md R504). -/
def execRegRead (addr : Byte) (s : State) : Host.Outcome State Fault Refusal :=
  .next (returnToHost (memRead s addr) s)

/-- REG_WRITE (43_control.md R505). At address 0x00 the byte is a reserved command byte, which raises RESERVED_CMD
(30_encoding.md R307; log entry 10 on terms no word spells). -/
def execRegWrite (addr value : Byte) (s : State) : Host.Outcome State Fault Refusal :=
  .next (memWrite addr value s)

end Sys2Proof.Machine
end

