-- ==== Sys2Proof/Machine/Dispatch.lean ====
section
/-!
DEFINITION. One arm per instruction of the opcode table: each calls its own meaning.
-/

namespace Sys2Proof.Machine

def exec (i : Instr) (s : State) : Host.Outcome State Fault Refusal :=
  match i with
  | .nop => Sys2Proof.Machine.execNop s
  | .crcInit => Sys2Proof.Machine.execCrcInit s
  | .clearErr => Sys2Proof.Machine.execClearErr s
  | .crcUpdate0 => Sys2Proof.Machine.execCrcUpdate0 s
  | .crcUpdate1 => Sys2Proof.Machine.execCrcUpdate1 s
  | .crcUpdate2 => Sys2Proof.Machine.execCrcUpdate2 s
  | .crcUpdate3 => Sys2Proof.Machine.execCrcUpdate3 s
  | .crcUpdate4 => Sys2Proof.Machine.execCrcUpdate4 s
  | .crcUpdate5 => Sys2Proof.Machine.execCrcUpdate5 s
  | .crcUpdate6 => Sys2Proof.Machine.execCrcUpdate6 s
  | .crcUpdate7 => Sys2Proof.Machine.execCrcUpdate7 s
  | .crcUpdate8 => Sys2Proof.Machine.execCrcUpdate8 s
  | .descramble => Sys2Proof.Machine.execDescramble s
  | .bitrev => Sys2Proof.Machine.execBitrev s
  | .decode => Sys2Proof.Machine.execDecode s
  | .decodeLegacy => Sys2Proof.Machine.execDecodeLegacy s
  | .decodeEnhanced => Sys2Proof.Machine.execDecodeEnhanced s
  | .softReset => Sys2Proof.Machine.execSoftReset s
  | .regRead addr => Sys2Proof.Machine.execRegRead addr s
  | .regWrite addr value => Sys2Proof.Machine.execRegWrite addr value s

end Sys2Proof.Machine
end

