-- ==== Sys2Proof/Machine/Step.lean ====
section
/-!
DEFINITION. One step of the machine: a power-on reset that is due (70_reset_and_hazards.md R701), else the host's
next access, performed whole before the following one (20_memory.md R212), else nothing (R210; log entry 4).
-/

namespace Sys2Proof.Machine

/-- One bus word: the instruction it spells runs after the host's index has moved past it, and a word that spells
none is refused (30_encoding.md R302). -/
def runWord (w : BusWord) (s : State) : Host.Outcome State Fault Refusal :=
  match decode w with
  | some i => exec i (advance s)
  | none => .refused .malformedReadWord

/-- The host's next access, or no change when its program has ended (10_state.md R102, decision D37). -/
def runAccess (s : State) : Host.Outcome State Fault Refusal :=
  match fetchWord s.host with
  | some w => runWord w s
  | none => .next s

/-- One step. A due power-on reset comes before the access, since no access is performed while it is asserted
(70_reset_and_hazards.md R701). -/
def step (s : State) : Host.Outcome State Fault Refusal :=
  match duePowerOn s.host with
  | some rest => .next (powerOnReset (s.setHost { s.host with powerOns := rest }))
  | none => runAccess s

/-- The state whose next access is the given word (log entry 12). -/
def State.withFetchWord (s : State) (_nbits w : Nat) : State := s.setHost (placeWord s.host (BitVec.ofNat 17 w))

end Sys2Proof.Machine
end

