-- ==== Sys2Proof/Safety.lean ====
section
/-!
DEFINITION. What claims call a legal state and a safe run.
A legal state is one the registers' rules allow: the reserved bits are 0, STATUS.RES and ERRCODE hold assigned codes,
the error record is consistent, and the result registers agree with STATUS.RES (10_state.md R113 to R128). A run of
correct use is one that ends with ERR = 0 (93_implementation_defined.md I4). The legal values of OFFSET, ADDR_LEN
and CAP_LEN are in their types.
-/

namespace Sys2Proof.Machine

/-- Every entry of an output array from index `k` on is 0x00 (10_state.md R126, R127). -/
def zeroFrom {n : Nat} (v : Vector Byte n) (k : Nat) : Prop := ∀ j : Fin n, k ≤ j.val → v[j] = 0x00

/-- ERRCODE is one of the assigned codes and is NONE exactly when ERR is clear (10_state.md R115, 60_exceptions.md
R603). -/
def errorRecordLegal (s : State) : Prop :=
  s.errCode.toNat ≤ 4 ∧ (statusErr s.status = false ↔ s.errCode = 0x00)

/-- The lengths of a recovered frame fit together (10_state.md R128). -/
def lengthsLegal (r : Results) : Prop :=
  3 ≤ r.resAddrLen.toNat ∧ r.resAddrLen.toNat ≤ 5 ∧ r.payloadLen.toNat ≤ 27 ∧
    r.resAddrLen.toNat + r.payloadLen.toNat = r.frameLen.toNat ∧ r.frameLen.toNat ≤ 30

/-- The output arrays hold nothing past their lengths (10_state.md R126, R127). -/
def outputsLegal (r : Results) : Prop :=
  zeroFrom r.addrOut r.resAddrLen.toNat ∧ zeroFrom r.payloadOut r.payloadLen.toNat

/-- The result registers after LEGACY_OK (42_frame_decoder.md R447). -/
def legacyResultsLegal (r : Results) : Prop :=
  lengthsLegal r ∧ outputsLegal r ∧ 1 ≤ r.payloadLen.toNat ∧ r.pcfLen = 0x00 ∧ flagsEnh r.flags = false ∧
    flagsAck r.flags = false ∧ flagsPid r.flags = 0

/-- The result registers after ENHANCED_OK (42_frame_decoder.md R454). -/
def enhancedResultsLegal (r : Results) : Prop :=
  lengthsLegal r ∧ outputsLegal r ∧ r.frameLen.toNat ≤ 28 ∧ flagsEnh r.flags = true

/-- The result registers after ENH_LEN_ERR (42_frame_decoder.md R453). -/
def enhLenErrResultsLegal (r : Results) : Prop :=
  3 ≤ r.frameLen.toNat ∧ r.frameLen.toNat < r.resAddrLen.toNat ∧ r.resAddrLen.toNat ≤ 5 ∧ r.payloadLen = 0x00 ∧
    zeroFrom r.addrOut 0 ∧ zeroFrom r.payloadOut 0 ∧ flagsEnh r.flags = true ∧ flagsAck r.flags = false ∧
    flagsPid r.flags = 0

/-- The result registers agree with STATUS.RES, and RES is an assigned code (10_state.md R114, R128). -/
def resultsAgree (res : BitVec 3) (r : Results) : Prop :=
  (res = 0 ∧ r = Results.cleared) ∨ (res = 1 ∧ legacyResultsLegal r) ∨ (res = 2 ∧ enhancedResultsLegal r) ∨
    (res = 3 ∧ r = Results.cleared) ∨ (res = 4 ∧ enhLenErrResultsLegal r)

/-- The bits that always read 0: STATUS[6:3], FLAGS[7:5] and PCF_LEN[7] (10_state.md R113, R121, R125). -/
def reservedBitsZero (s : State) : Prop :=
  s.status.extractLsb' 3 4 = 0 ∧ s.results.flags.extractLsb' 5 3 = 0 ∧ s.results.pcfLen.getLsbD 7 = false

/-- A legal state. -/
def State.Legal (s : State) : Prop :=
  reservedBitsZero s ∧ errorRecordLegal s ∧ resultsAgree (statusRes s.status) s.results

/-- No interface error has been recorded (93_implementation_defined.md I4). -/
def State.NoInterfaceError (s : State) : Prop := statusErr s.status = false

end Sys2Proof.Machine
end

