-- ==== Sys2Proof/Certificates/Slice0/Obligations.lean ====
section
/-!
DEFINITION. The statements for the provers. The helper definitions spell the spec's own tables and layouts a second
time (the errors of 60_exceptions.md R602, the read-only and reserved addresses of 20_memory.md R204, the loop of
41_crc_engine.md R421, the masks, the correction indices, the candidate tests and the frame layouts of
42_frame_decoder.md), so that a statement does not rest on the definitions a meaning calls.
-/

namespace Sys2Proof.Claims

open Sys2Proof Sys2Proof.Machine

/-- The reserved command bytes (30_encoding.md R307). -/
def reservedCommand (c : Byte) : Bool :=
  let n := c.toNat
  (0x03 ≤ n && n ≤ 0x0F) || (0x19 ≤ n && n ≤ 0x1F) || (0x22 ≤ n && n ≤ 0x2F) || (0x33 ≤ n && n ≤ 0xEF) ||
    (0xF1 ≤ n && n ≤ 0xFF)

/-- The read-only addresses (20_memory.md R204 (d), 60_exceptions.md R602). -/
def readOnlyAddress (a : Byte) : Bool :=
  let n := a.toNat
  n == 0x01 || n == 0x02 || n == 0x0C || (0x10 ≤ n && n ≤ 0x14) || (0x18 ≤ n && n ≤ 0x1C) ||
    (0x40 ≤ n && n ≤ 0x5A) || (0x60 ≤ n && n ≤ 0x86)

/-- The reserved addresses (60_exceptions.md R602). -/
def reservedAddress (a : Byte) : Bool :=
  let n := a.toNat
  n == 0x03 || n == 0x0F || (0x15 ≤ n && n ≤ 0x17) || (0x1D ≤ n && n ≤ 0x1F) || (0x5B ≤ n && n ≤ 0x5F) ||
    (0x87 ≤ n && n ≤ 0xFF)

/-- The read/write addresses with no range limit (20_memory.md R204 (b)). -/
def storingAddress (a : Byte) : Bool :=
  let n := a.toNat
  (0x04 ≤ n && n ≤ 0x0A) || (0x20 ≤ n && n ≤ 0x3F)

/-- A range-checked register takes the value (20_memory.md R204 (c), 10_state.md R105, R110, R111). -/
def inRange (a v : Byte) : Bool :=
  (a == 0x0B && v.toNat ≤ 38) || (a == 0x0D && (v == 3 || v == 4 || v == 5)) || (a == 0x0E && v.toNat ≤ 32)

/-- The code of the error a host write raises, none when the write is accepted (60_exceptions.md R602). -/
def errorRaised (a v : Byte) : Option Byte :=
  if a == 0x00 then (if reservedCommand v then some 0x01 else none)
  else if a == 0x0B || a == 0x0D || a == 0x0E then (if inRange a v then none else some 0x02)
  else if readOnlyAddress a then some 0x03
  else if reservedAddress a then some 0x04
  else none

/-- The state after an error of the given code (60_exceptions.md R603, R604): nothing but ERR and ERRCODE. -/
def recorded (code : Byte) (s : State) : State :=
  { s with
    errCode := if s.status.getLsbD 7 then s.errCode else code
    status := s.status ||| 0x80 }

/-- The instruction of a host access that raises an error is the REG_WRITE of its address and byte. -/
def raises (i : Instr) : Bool :=
  match i with
  | .regWrite a v => (errorRaised a v).isSome
  | _ => false

/-- The instruction CRC_UPDATE.n. -/
def crcUpdateOf (n : Fin 9) : Instr :=
  match n with
  | 0 => .crcUpdate0
  | 1 => .crcUpdate1
  | 2 => .crcUpdate2
  | 3 => .crcUpdate3
  | 4 => .crcUpdate4
  | 5 => .crcUpdate5
  | 6 => .crcUpdate6
  | 7 => .crcUpdate7
  | 8 => .crcUpdate8

/-- The procedure of 41_crc_engine.md R421, its loop over j = 1 .. n. -/
def crcLoop (s : Word16) (b : Byte) (n : Nat) (poly : Word16) : Word16 :=
  (List.range n).foldl (fun s _ => (s <<< 1) ^^^ (if s.msb then poly else 0)) (s ^^^ (b.setWidth 16 <<< 8))

/-- `crc_bit(s, x, poly)` (41_crc_engine.md R422). -/
def crcBit (poly : Word16) (s : Word16) (x : Bool) : Word16 :=
  (s <<< 1) ^^^ (if s.msb ^^ x then poly else 0)

/-- The byte that holds at most 8 stream bits left-aligned, zeros below (41_crc_engine.md R422 (c)). -/
def leftAligned (bits : List Bool) : Byte :=
  BitVec.ofNat 8 ((List.range 8).foldl (fun n k => 2 * n + (bits.getD k false).toNat) 0)

/-- The bits of a byte in stream order, bit 7 first (00_scope.md R10). -/
def streamBits (b : Byte) : List Bool := (List.range 8).map fun k => b.getLsbD (7 - k)

/-- A list of instructions performed in order, none if one does not answer a next state. -/
def runAll (is : List Instr) (s : State) : Option State :=
  match is with
  | [] => some s
  | i :: rest =>
    match exec i s with
    | .next t => runAll rest t
    | .fault _ => none
    | .refused _ => none

/-- One chunk of a bit stream as the host feeds it: the byte into DATA, then CRC_UPDATE of its length
(30_encoding.md R311). -/
def feedChunk (chunk : List Bool) : List Instr :=
  [.regWrite 0x0A (leftAligned chunk), crcUpdateOf (Fin.ofNat 9 chunk.length)]

/-- The three decode commands. -/
def isDecodeCommand (i : Instr) : Prop := i = .decode ∨ i = .decodeLegacy ∨ i = .decodeEnhanced

/-- The assumed address length A. -/
def lenA (s : State) : Nat := addrLenNat s.addrLen

/-- The running CRC over the first `n` raw capture bytes, from the seed (42_frame_decoder.md R444, R448). -/
def prefixCrc (s : State) (n : Nat) : Word16 :=
  (s.cap.toList.take n).foldl (fun c b => crcUpdate c b 8 s.crcPoly) s.crcSeed

/-- CAP[k], k = 0 .. 31 (10_state.md R131). -/
def rawAt (s : State) (k : Nat) : Byte := s.cap.toList.getD k 0x00

/-- `mask(PL, k) = 0x00` and `mask(SC, k) = SCRAMBLE[k]` (42_frame_decoder.md R443). -/
def maskAt (s : State) (h : Hypothesis) (k : Nat) : Byte :=
  match h with
  | .plain => 0x00
  | .scrambled => s.tables.scramble.toList.getD k 0x00

/-- `U[k] = CAP[k] xor mask(h, k)` (42_frame_decoder.md R451). -/
def unmaskedAt (s : State) (h : Hypothesis) (k : Nat) : Byte := rawAt s k ^^^ maskAt s h k

/-- The legacy correction of frame length L: entry L - 3 of XOR_PL_LEG for PL and of XOR_SC_LEG for SC (10_state.md
R141, 42_frame_decoder.md R446, 90_conflicts.md C1). -/
def legacyCorrection (s : State) (h : Hypothesis) (L : Nat) : Word16 :=
  match h with
  | .plain => s.tables.xorPlLeg.toList.getD (L - 3) 0x0000
  | .scrambled => s.tables.xorScLeg.toList.getD (L - 3) 0x0000

/-- The enhanced correction of frame length L: entry L - 3 of XOR_PL_ENH for PL and of XOR_SC_ENH for SC (10_state.md
R141, 42_frame_decoder.md R450, 90_conflicts.md C1). -/
def enhancedCorrection (s : State) (h : Hypothesis) (L : Nat) : Word16 :=
  match h with
  | .plain => s.tables.xorPlEnh.toList.getD (L - 3) 0x0000
  | .scrambled => s.tables.xorScEnh.toList.getD (L - 3) 0x0000

/-- The legacy candidate test at index i, of frame length i + 1 (42_frame_decoder.md R446). -/
abbrev legacyTest (s : State) (i : Nat) (h : Hypothesis) : Prop :=
  let r := prefixCrc s (i + 1) ^^^ legacyCorrection s h (i + 1)
  r >>> 8 = (rawAt s (i + 1)).setWidth 16 ∧ r &&& 0x00FF = (rawAt s (i + 2)).setWidth 16

/-- The enhanced candidate test at index i, of frame length i (42_frame_decoder.md R449, R450). -/
abbrev enhancedTest (s : State) (i : Nat) (h : Hypothesis) : Prop :=
  crcUpdate (prefixCrc s (i + 1)) (rawAt s (i + 1) &&& 0xC0) 2 s.crcPoly ^^^ enhancedCorrection s h i =
    (((rawAt s (i + 1) &&& 0x3F).setWidth 16 <<< 10) ||| ((rawAt s (i + 2)).setWidth 16 <<< 2) |||
      ((rawAt s (i + 3)).setWidth 16 >>> 6))

/-- No legacy candidate below index `bound` matches (42_frame_decoder.md R445). -/
abbrev noLegacyBelow (s : State) (bound : Nat) : Prop :=
  ∀ j < bound, lenA s ≤ j → ¬ legacyTest s j .plain ∧ ¬ legacyTest s j .scrambled

/-- No enhanced candidate below index `bound` matches (42_frame_decoder.md R448). -/
abbrev noEnhancedBelow (s : State) (bound : Nat) : Prop :=
  ∀ j < bound, 3 ≤ j → ¬ enhancedTest s j .plain ∧ ¬ enhancedTest s j .scrambled

/-- Index i under h is pass 1's first match (42_frame_decoder.md R443, R445). -/
abbrev firstLegacyMatch (s : State) (i : Nat) (h : Hypothesis) : Prop :=
  lenA s ≤ i ∧ i ≤ 29 ∧ legacyTest s i h ∧ (h = .scrambled → ¬ legacyTest s i .plain) ∧ noLegacyBelow s i

/-- Index i under h is pass 2's first match (42_frame_decoder.md R443, R448). -/
abbrev firstEnhancedMatch (s : State) (i : Nat) (h : Hypothesis) : Prop :=
  3 ≤ i ∧ i ≤ 28 ∧ enhancedTest s i h ∧ (h = .scrambled → ¬ enhancedTest s i .plain) ∧ noEnhancedBelow s i

/-- ADDR_OUT holds the address bytes of U reversed, then 0x00 (10_state.md R126, 42_frame_decoder.md R447). -/
def addrRecovered (s : State) (h : Hypothesis) (a : Nat) (r : Results) : Prop :=
  r.addrOut.toList = ((List.range a).map (unmaskedAt s h)).reverse ++ List.replicate (5 - a) 0x00

/-- What a legacy match of frame length L leaves (42_frame_decoder.md R447). -/
def legacyRecovered (s t : State) (L : Nat) (h : Hypothesis) : Prop :=
  statusRes t.status = 1 ∧ t.results.frameLen.toNat = L ∧ t.results.resAddrLen.toNat = lenA s ∧
    t.results.payloadLen.toNat = L - lenA s ∧ t.results.pcfLen = 0x00 ∧
    t.results.flags = (if h = .scrambled then 0x02 else 0x00) ∧ addrRecovered s h (lenA s) t.results ∧
    t.results.payloadOut.toList =
      (List.range (L - lenA s)).map (fun j => bitReverse (unmaskedAt s h (lenA s + j))) ++
        List.replicate (27 - (L - lenA s)) 0x00

/-- The PCF length at address length b equals L - b (42_frame_decoder.md R452). -/
abbrev pcfAgrees (s : State) (h : Hypothesis) (L b : Nat) : Prop := (unmaskedAt s h b).toNat / 2 + b = L

/-- a is the resolved address length A' (42_frame_decoder.md R452). -/
abbrev resolvesTo (s : State) (h : Hypothesis) (L a : Nat) : Prop :=
  (pcfAgrees s h L (lenA s) ∧ a = lenA s) ∨
  (¬ pcfAgrees s h L (lenA s) ∧ 3 ≤ a ∧ a ≤ 5 ∧ pcfAgrees s h L a ∧ ∀ b < 6, a < b → ¬ pcfAgrees s h L b) ∨
  ((∀ b < 6, 3 ≤ b → ¬ pcfAgrees s h L b) ∧ a = lenA s)

/-- The FLAGS value of an enhanced match: ENH + 2 SCR + 4 ACK + 8 PID (10_state.md R121, 42_frame_decoder.md R452). -/
def enhancedFlags (s : State) (h : Hypothesis) (a : Nat) : Nat :=
  1 + (if h = .scrambled then 2 else 0) + 4 * ((unmaskedAt s h (a + 1)).toNat / 64 % 2) +
    8 * ((unmaskedAt s h a).toNat % 2 * 2 + (unmaskedAt s h (a + 1)).toNat / 128)

/-- What an enhanced match of frame length L with address length a leaves (42_frame_decoder.md R452, R454). -/
def enhancedRecovered (s t : State) (L : Nat) (h : Hypothesis) (a : Nat) : Prop :=
  statusRes t.status = 2 ∧ t.results.frameLen.toNat = L ∧ t.results.resAddrLen.toNat = a ∧
    t.results.payloadLen.toNat = L - a ∧ t.results.pcfLen.toNat = (unmaskedAt s h a).toNat / 2 ∧
    t.results.flags.toNat = enhancedFlags s h a ∧ addrRecovered s h a t.results ∧
    t.results.payloadOut.toList =
      (List.range (L - a)).map (fun j => bitReverse (BitVec.ofNat 8
        ((unmaskedAt s h (a + 1 + j)).toNat % 64 * 4 + (unmaskedAt s h (a + 2 + j)).toNat / 64))) ++
        List.replicate (27 - (L - a)) 0x00

/-- What an enhanced match with no room for its address leaves, and when there is none: no correction was found, A is
4 or 5, and L is 3 or 4 (42_frame_decoder.md R453). -/
def enhLenErrLeft (s t : State) (L : Nat) (h : Hypothesis) (a : Nat) : Prop :=
  a = lenA s ∧ lenA s ≠ 3 ∧ (L = 3 ∨ L = 4) ∧ statusRes t.status = 4 ∧ t.results =
    { Results.cleared with
      flags := if h = .scrambled then 0x03 else 0x01
      frameLen := BitVec.ofNat 8 L
      resAddrLen := BitVec.ofNat 8 a
      pcfLen := BitVec.ofNat 8 ((unmaskedAt s h a).toNat / 2) }

/-- What a decode command with no match leaves (42_frame_decoder.md R455). -/
def noMatchLeft (t : State) : Prop := statusRes t.status = 3 ∧ t.results = Results.cleared

/-- The on-air bytes of a legacy frame before its CRC: the address reversed, then the payload with each byte
bit-reversed, each byte xor the mask of its index (42_frame_decoder.md R460 (b), R461). -/
def legacyBody (s : State) (h : Hypothesis) (addr payload : List Byte) : List Byte :=
  (addr.reverse ++ payload.map bitReverse).mapIdx fun k b => b ^^^ maskAt s h k

/-- The CRC field of a legacy frame: the CRC of its body from the seed, xor the correction entry of its length
(42_frame_decoder.md R460 (b)). -/
def legacyCrcField (s : State) (h : Hypothesis) (addr payload : List Byte) : Word16 :=
  (legacyBody s h addr payload).foldl (fun c b => crcUpdate c b 8 s.crcPoly) s.crcSeed ^^^
    legacyCorrection s h (addr.length + payload.length)

/-- The capture holds the legacy frame (42_frame_decoder.md R461): its body, then the CRC high byte and low byte. -/
abbrev holdsLegacyFrame (s : State) (h : Hypothesis) (addr payload : List Byte) : Prop :=
  s.cap.toList.take (addr.length + payload.length + 2) =
    legacyBody s h addr payload ++
      [(legacyCrcField s h addr payload).extractLsb' 8 8, (legacyCrcField s h addr payload).extractLsb' 0 8]

/-- The low `n` bits of a number, high bit first. -/
def bitsOf (n v : Nat) : List Bool := (List.range n).map fun k => v.testBit (n - 1 - k)

/-- The logical bit stream of an enhanced frame up to its CRC: address, 7-bit length, 2-bit protocol id, ack, and the
payload with each byte bit-reversed (42_frame_decoder.md R462). -/
def enhancedStream (addr payload : List Byte) (pid : Nat) (ack : Bool) : List Bool :=
  addr.reverse.flatMap streamBits ++ bitsOf 7 payload.length ++ bitsOf 2 pid ++ [ack] ++
    payload.flatMap (fun b => streamBits (bitReverse b))

/-- The raw capture as one bit stream (00_scope.md R10). -/
def captureBits (s : State) : List Bool := s.cap.toList.flatMap streamBits

/-- The descrambled view as one bit stream (42_frame_decoder.md R451). -/
def viewBits (s : State) (h : Hypothesis) : List Bool := (List.range 32).flatMap fun k => streamBits (unmaskedAt s h k)

/-- The CRC field of an enhanced frame of length L: the bitwise CRC of the raw stream it covers, 8(L + 1) + 2 bits, xor
the correction entry of its length (42_frame_decoder.md R460 (c), R462). -/
def enhancedCrcField (s : State) (h : Hypothesis) (L : Nat) : Word16 :=
  ((captureBits s).take (8 * (L + 1) + 2)).foldl (crcBit s.crcPoly) s.crcSeed ^^^
    enhancedCorrection s h L

/-- The capture holds the enhanced frame (42_frame_decoder.md R462): its stream under the mask of h, then the raw 16
bits of its CRC. -/
abbrev holdsEnhancedFrame (s : State) (h : Hypothesis) (addr payload : List Byte) (pid : Nat) (ack : Bool) : Prop :=
  let L := addr.length + payload.length
  (viewBits s h).take (8 * (L + 1) + 2) = enhancedStream addr payload pid ack ∧
    ((captureBits s).drop (8 * (L + 1) + 2)).take 16 = bitsOf 16 (enhancedCrcField s h L).toNat

/-- The operands of the decode command c agree: CAP, ADDR_LEN, CRC_SEED, CRC_POLY and SCRAMBLE[0..31]; entries 1 to 27
of the legacy tables unless c is DECODE_ENHANCED, and entries 0 to 25 of the enhanced tables unless c is DECODE_LEGACY
(42_frame_decoder.md R441, R456, R457; 10_state.md R141). -/
def sameDecodeOperands (c : Instr) (s s' : State) : Prop :=
  s.cap = s'.cap ∧ s.addrLen = s'.addrLen ∧ s.crcSeed = s'.crcSeed ∧ s.crcPoly = s'.crcPoly ∧
    (∀ k < 32, s.tables.scramble[k]? = s'.tables.scramble[k]?) ∧
    (c ≠ .decodeEnhanced → ∀ k < 28, 1 ≤ k →
      s.tables.xorPlLeg[k]? = s'.tables.xorPlLeg[k]? ∧ s.tables.xorScLeg[k]? = s'.tables.xorScLeg[k]?) ∧
    (c ≠ .decodeLegacy → ∀ k < 26,
      s.tables.xorPlEnh[k]? = s'.tables.xorPlEnh[k]? ∧ s.tables.xorScEnh[k]? = s'.tables.xorScEnh[k]?)

/-- A state with its error record masked out: STATUS.ERR and ERRCODE at 0. -/
def withoutErrorRecord (s : State) : State := { s with status := s.status &&& 0x7F, errCode := 0x00 }

end Sys2Proof.Claims

open Sys2Proof Sys2Proof.Machine Sys2Proof.Claims

/-- Every well-formed instruction's word decodes to it (30_encoding.md R301 to R304, 43_control.md R504, R505). -/
def Obligations.DecodeOfEncodeIsTheInstruction : Prop :=
  ∀ i : Instr, i.wellFormed = true → decode (encode i) = some i

/-- Every word the decoder accepts spells one well-formed instruction, whose word it is (30_encoding.md R301, R302). -/
def Obligations.EncodeOfDecodeIsTheWord : Prop :=
  ∀ (w : BusWord) (i : Instr), decode w = some i → i.wellFormed = true ∧ encode i = w

/-- The words of the command map (30_encoding.md R304) and one read and one write (R302), from the table's match
values. -/
def Obligations.TableWordsDecodeToTheirRows : Prop :=
  decode 0x10000 = some .nop ∧ decode 0x10001 = some .crcInit ∧ decode 0x10002 = some .clearErr ∧
  (∀ n : Fin 9, decode (BitVec.ofNat 17 (0x10010 + n.val)) = some (crcUpdateOf n)) ∧
  decode 0x10020 = some .descramble ∧ decode 0x10021 = some .bitrev ∧ decode 0x10030 = some .decode ∧
  decode 0x10031 = some .decodeLegacy ∧ decode 0x10032 = some .decodeEnhanced ∧ decode 0x100F0 = some .softReset ∧
  decode 0x00900 = some (.regRead 0x09) ∧ decode 0x10D06 = some (.regWrite 0x0D 0x06)

/-- R302: W, ADDR and DATA are bits 16, 15:8 and 7:0 of a word. A word with W = 1 performs MemWrite(ADDR, 1, DATA), one
with W = 0 and DATA = 0x00 returns MemRead(ADDR, 1) to the host, and one with W = 0 and DATA ≠ 0x00 spells no access. -/
def Obligations.BusWordFieldsSpellTheAccess : Prop :=
  (∀ w : BusWord, w.getLsbD 16 = true → ∃ i, decode w = some i ∧
    ∀ s : State, exec i s = .next (memWrite (w.extractLsb' 8 8) (w.extractLsb' 0 8) s)) ∧
  (∀ w : BusWord, w.getLsbD 16 = false → w.extractLsb' 0 8 = 0 → ∃ i, decode w = some i ∧
    ∀ s : State, exec i s =
      .next { s with host := { s.host with reads := s.host.reads ++ [memRead s (w.extractLsb' 8 8)] } }) ∧
  (∀ w : BusWord, w.getLsbD 16 = false → w.extractLsb' 0 8 ≠ 0 → decode w = none)

/-- R307: a write of a reserved byte to CMD raises RESERVED_CMD and changes nothing else. -/
def Obligations.ReservedCommandByteRaisesReservedCmd : Prop :=
  ∀ (c : Byte) (s : State), reservedCommand c = true →
    decode (BitVec.ofNat 17 (0x10000 + c.toNat)) = some (.regWrite 0x00 c) ∧
    exec (.regWrite 0x00 c) s = .next (recorded 0x01 s)

/-- A step with no reset due runs the decoded instruction, after the host's index has moved past its word. -/
def Obligations.StepRunsTheDecodedInstruction : Prop :=
  ∀ (s : State) (w : BusWord) (i : Instr), duePowerOn s.host = none → s.host.program[s.host.pc]? = some w →
    decode w = some i →
    step s = exec i { s with host := { s.host with pc := s.host.pc + 1 } }

/-- With no access left and no reset due a step changes nothing (log entry 4; 20_memory.md R210). -/
def Obligations.StepIsIdleAfterTheProgram : Prop :=
  ∀ s : State, duePowerOn s.host = none → s.host.program.length ≤ s.host.pc → step s = .next s

/-- A due power-on reset is one step: the reset values, CAP a fresh draw, tables and host kept (log entries 2, 5). -/
def Obligations.DuePowerOnResetsTheBlock : Prop :=
  ∀ (s : State) (n : Nat) (rest : List Nat), s.host.powerOns = n :: rest → n ≤ s.host.pc →
    ∃ t, step s = .next t ∧ t.data = 0x00 ∧ t.offset = 0 ∧ t.result = 0x00 ∧ t.crcState = 0xB5D2 ∧
      t.crcPoly = 0x1021 ∧ t.crcSeed = 0xB5D2 ∧ addrLenNat t.addrLen = 5 ∧ t.capLen = 0 ∧ t.status = 0x00 ∧
      t.errCode = 0x00 ∧ t.results = Results.cleared ∧ t.tables = s.tables ∧
      (∀ k : Fin 32, t.cap[k] = Config.capPowerOn s.capDraws k) ∧ t.capDraws = s.capDraws + 1 ∧
      t.host = { s.host with powerOns := rest }

/-- A step answers a next state, or refuses the malformed read word and only that; and with no reset due it refuses
every such word (log entry 6). -/
def Obligations.StepCompletesUnlessTheWordIsMalformed : Prop :=
  (∀ s : State, (∃ t, step s = .next t) ∨
    (step s = .refused .malformedReadWord ∧ duePowerOn s.host = none ∧
      ∃ w, s.host.program[s.host.pc]? = some w ∧ w.getLsbD 16 = false ∧ w.extractLsb' 0 8 ≠ 0)) ∧
  (∀ (s : State) (w : BusWord), duePowerOn s.host = none → s.host.program[s.host.pc]? = some w →
    w.getLsbD 16 = false → w.extractLsb' 0 8 ≠ 0 → step s = .refused .malformedReadWord)

/-- One access moves the host's index by one and touches neither the program, the pending resets, the tables nor the
draw counter; only a read gives the host a value, and it is the byte at its address (10_state.md R102). -/
def Obligations.AccessAdvancesTheHostByOne : Prop :=
  ∀ (s : State) (w : BusWord) (i : Instr), duePowerOn s.host = none → s.host.program[s.host.pc]? = some w →
    decode w = some i →
    ∃ t, step s = .next t ∧ t.host.pc = s.host.pc + 1 ∧ t.host.program = s.host.program ∧
      t.host.powerOns = s.host.powerOns ∧ t.tables = s.tables ∧ t.capDraws = s.capDraws ∧
      t.host.reads = s.host.reads ++ (if w.getLsbD 16 then [] else [memRead s (w.extractLsb' 8 8)])

/-- The reset values R160 states (every row but CAP's, which it leaves unspecified), and what the host reads then. -/
def Obligations.ResetHoldsTheStatedValues : Prop :=
  State.reset.crcState = 0xB5D2 ∧ State.reset.crcPoly = 0x1021 ∧ State.reset.crcSeed = 0xB5D2 ∧
  State.reset.data = 0x00 ∧ State.reset.offset = 0 ∧ State.reset.result = 0x00 ∧
  addrLenNat State.reset.addrLen = 5 ∧ State.reset.capLen = 0 ∧ State.reset.status = 0x00 ∧
  State.reset.errCode = 0x00 ∧ State.reset.results.flags = 0x00 ∧ State.reset.results.frameLen = 0x00 ∧
  State.reset.results.resAddrLen = 0x00 ∧ State.reset.results.payloadLen = 0x00 ∧
  State.reset.results.pcfLen = 0x00 ∧ (∀ k : Fin 5, State.reset.results.addrOut[k] = 0x00) ∧
  (∀ k : Fin 27, State.reset.results.payloadOut[k] = 0x00) ∧ memRead State.reset 0x04 = 0xD2 ∧
  memRead State.reset 0x05 = 0xB5 ∧ memRead State.reset 0x06 = 0x21 ∧ memRead State.reset 0x07 = 0x10 ∧
  memRead State.reset 0x08 = 0xD2 ∧ memRead State.reset 0x09 = 0xB5 ∧ memRead State.reset 0x0D = 0x05

/-- R501: NOP is byte 0x00 and leaves every state as it is. -/
def Obligations.NopChangesNothing : Prop :=
  decode 0x10000 = some .nop ∧ ∀ s : State, exec .nop s = .next s

/-- R502: CLEAR_ERR clears ERR and ERRCODE and nothing else, changes nothing when ERR is already 0 (in a legal state,
where ERRCODE is then 0 too), and is the only command besides SOFT_RESET that clears ERR. -/
def Obligations.ClearErrClearsTheErrorRecord : Prop :=
  decode 0x10002 = some .clearErr ∧
  (∀ s : State, exec .clearErr s = .next { s with status := s.status &&& 0x7F, errCode := 0x00 }) ∧
  (∀ s t : State, exec .clearErr s = .next t → statusErr t.status = false ∧ statusRes t.status = statusRes s.status) ∧
  (∀ s : State, s.Legal → statusErr s.status = false → exec .clearErr s = .next s) ∧
  (∀ (i : Instr) (s t : State), i.wellFormed = true → exec i s = .next t → statusErr s.status = true →
    statusErr t.status = false → i = .clearErr ∨ i = .softReset)

/-- R503, R703: SOFT_RESET gives every register its reset value, keeps CAP, and leaves the tables and the host. -/
def Obligations.SoftResetRestoresRegistersAndKeepsCap : Prop :=
  decode 0x100F0 = some .softReset ∧
  ∀ s : State, ∃ t, exec .softReset s = .next t ∧ t.data = 0x00 ∧ t.offset = 0 ∧ t.result = 0x00 ∧
    t.crcState = 0xB5D2 ∧ t.crcPoly = 0x1021 ∧ t.crcSeed = 0xB5D2 ∧ addrLenNat t.addrLen = 5 ∧ t.capLen = 0 ∧
    t.status = 0x00 ∧ t.errCode = 0x00 ∧ t.results = Results.cleared ∧ t.cap = s.cap ∧ t.tables = s.tables ∧
    t.host = s.host ∧ t.capDraws = s.capDraws

/-- R423: CRC_INIT copies CRC_SEED into CRC_STATE and changes nothing else. -/
def Obligations.CrcInitLoadsTheSeed : Prop :=
  decode 0x10001 = some .crcInit ∧ ∀ s : State, exec .crcInit s = .next { s with crcState := s.crcSeed }

/-- R421, R424: CRC_UPDATE.n runs the loop of R421 n times over CRC_STATE, DATA and CRC_POLY and writes CRC_STATE only.
With CRC_POLY = 0 it is a shift of CRC_STATE xor DATA; with n = 0 it is the XOR alone; 0x19 to 0x1F are reserved. -/
def Obligations.CrcUpdateRunsTheShiftLoop : Prop :=
  (∀ n : Fin 9, decode (BitVec.ofNat 17 (0x10010 + n.val)) = some (crcUpdateOf n)) ∧
  (∀ (n : Fin 9) (s : State),
    exec (crcUpdateOf n) s = .next { s with crcState := crcLoop s.crcState s.data n.val s.crcPoly }) ∧
  (∀ (n : Fin 9) (s : State), s.crcPoly = 0 →
    exec (crcUpdateOf n) s =
      .next { s with crcState := (s.crcState ^^^ (s.data.setWidth 16 <<< 8)) <<< n.val }) ∧
  (∀ s : State, exec .crcUpdate0 s = .next { s with crcState := s.crcState ^^^ (s.data.setWidth 16 <<< 8) }) ∧
  (∀ (c : Byte) (s : State), 0x19 ≤ c.toNat → c.toNat ≤ 0x1F →
    exec (.regWrite 0x00 c) s = .next (recorded 0x01 s))

/-- R422 (a): when the low 8 - n bits of DATA are 0, CRC_UPDATE.n consumes the top n bits of DATA one by one. -/
def Obligations.CrcUpdateOfMaskedByteIsBitwise : Prop :=
  ∀ (n : Fin 9) (s : State), (∀ k, k < 8 - n.val → s.data.getLsbD k = false) →
    exec (crcUpdateOf n) s =
      .next { s with crcState := ((streamBits s.data).take n.val).foldl (crcBit s.crcPoly) s.crcState }

/-- R422 (b): the low 8 - n bits of DATA are not consumed; they stay in CRC_STATE, shifted up by n. -/
def Obligations.CrcUpdateKeepsUnconsumedBits : Prop :=
  ∀ (n : Fin 9) (s : State), ∃ t, exec (crcUpdateOf n) { s with data := s.data >>> (8 - n.val) <<< (8 - n.val) } = .next t ∧
    exec (crcUpdateOf n) s =
      .next { s with crcState := t.crcState ^^^
        ((s.data &&& BitVec.ofNat 8 (2 ^ (8 - n.val) - 1)).setWidth 16 <<< (8 + n.val)) }

/-- R422 (c): a bit sequence fed in any chunks of at most 8 bits, each left-aligned in DATA with zeros below, leaves the
CRC_STATE of the whole sequence, whatever the split. -/
def Obligations.CrcStreamDoesNotDependOnTheSplit : Prop :=
  ∀ (chunks : List (List Bool)) (s : State), (∀ c ∈ chunks, c.length ≤ 8) →
    ∃ t, runAll (chunks.flatMap feedChunk) s = some t ∧
      t.crcState = chunks.flatten.foldl (crcBit s.crcPoly) s.crcState ∧ t.crcPoly = s.crcPoly ∧
      t.crcSeed = s.crcSeed

/-- R425: a decode command between two updates of a stream does not disturb it. -/
def Obligations.DecodeAndCrcUpdateCommute : Prop :=
  ∀ (c : Instr) (n : Fin 9) (s : State), isDecodeCommand c →
    ∃ t, runAll [c, crcUpdateOf n] s = some t ∧ runAll [crcUpdateOf n, c] s = some t

/-- R403: DESCRAMBLE writes DATA xor SCRAMBLE[OFFSET] to RESULT and nothing else. -/
def Obligations.DescrambleXorsTheTableEntry : Prop :=
  decode 0x10020 = some .descramble ∧
  ∀ s : State, exec .descramble s = .next { s with result := s.data ^^^ s.tables.scramble[s.offset] }

/-- R404: BITREV writes the reversed DATA to RESULT and nothing else; exactly the 16 listed bytes are their own
reversal. -/
def Obligations.BitrevReversesTheBits : Prop :=
  decode 0x10021 = some .bitrev ∧
  ∀ s : State, ∃ r : Byte, exec .bitrev s = .next { s with result := r } ∧
    (∀ j, j < 8 → r.getLsbD j = s.data.getLsbD (7 - j)) ∧
    (r = s.data ↔ s.data ∈ ([0x00, 0x18, 0x24, 0x3C, 0x42, 0x5A, 0x66, 0x7E, 0x81, 0x99, 0xA5, 0xBD, 0xC3, 0xDB,
      0xE7, 0xFF] : List Byte)) ∧
    (s.data = 0x01 → r = 0x80) ∧ (s.data = 0x80 → r = 0x01)

/-- R405: the laws of bit reversal and descrambling, through the commands for the involutions. -/
def Obligations.ReversalAndDescramblingLaws : Prop :=
  (∀ s : State, ∃ t u, exec .bitrev s = .next t ∧
    runAll [.regWrite 0x0A t.result, .bitrev] t = some u ∧ u.result = s.data) ∧
  (∀ s : State, ∃ t u, exec .descramble s = .next t ∧
    runAll [.regWrite 0x0A t.result, .descramble] t = some u ∧ u.result = s.data) ∧
  (∀ b m : Byte, bitReverse (b ^^^ m) = bitReverse b ^^^ bitReverse m)

/-- R203, R504: REG_READ returns the byte of the register its address reaches to the host, 0x00 for CMD and for a
reserved address, and changes nothing in the block. -/
def Obligations.RegReadReturnsTheRegisterByte : Prop :=
  (∀ (a : Byte) (s : State), exec (.regRead a) s =
    .next { s with host := { s.host with reads := s.host.reads ++ [memRead s a] } }) ∧
  ∀ s : State, memRead s 0x00 = 0x00 ∧ (∀ a, reservedAddress a = true → memRead s a = 0x00) ∧
    memRead s 0x01 = s.status ∧ memRead s 0x02 = s.errCode ∧
    memRead s 0x04 = s.crcState.extractLsb' 0 8 ∧ memRead s 0x05 = s.crcState.extractLsb' 8 8 ∧
    memRead s 0x06 = s.crcPoly.extractLsb' 0 8 ∧ memRead s 0x07 = s.crcPoly.extractLsb' 8 8 ∧
    memRead s 0x08 = s.crcSeed.extractLsb' 0 8 ∧ memRead s 0x09 = s.crcSeed.extractLsb' 8 8 ∧
    memRead s 0x0A = s.data ∧ (memRead s 0x0B).toNat = s.offset.val ∧ memRead s 0x0C = s.result ∧
    (memRead s 0x0D).toNat = addrLenNat s.addrLen ∧ (memRead s 0x0E).toNat = s.capLen.val ∧
    memRead s 0x10 = s.results.flags ∧ memRead s 0x11 = s.results.frameLen ∧
    memRead s 0x12 = s.results.resAddrLen ∧ memRead s 0x13 = s.results.payloadLen ∧
    memRead s 0x14 = s.results.pcfLen ∧
    (∀ k : Fin 5, memRead s (BitVec.ofNat 8 (0x18 + k.val)) = s.results.addrOut[k]) ∧
    (∀ k : Fin 32, memRead s (BitVec.ofNat 8 (0x20 + k.val)) = s.cap[k]) ∧
    (∀ k : Fin 27, memRead s (BitVec.ofNat 8 (0x40 + k.val)) = s.results.payloadOut[k]) ∧
    (∀ k : Fin 39, memRead s (BitVec.ofNat 8 (0x60 + k.val)) = s.tables.scramble[k])

/-- R204 (b), (c): a REG_WRITE to a storing address, or of a legal value to a range-checked register, stores the byte
there: the address reads it back, every other address reads as before, and nothing unreadable changes. -/
def Obligations.AcceptedWriteStoresOnlyItsByte : Prop :=
  ∀ (a v : Byte) (s : State), (storingAddress a || inRange a v) = true →
    ∃ t, exec (.regWrite a v) s = .next t ∧ memRead t a = v ∧ (∀ b, b ≠ a → memRead t b = memRead s b) ∧
      t.tables = s.tables ∧ t.host = s.host ∧ t.capDraws = s.capDraws

/-- R602 to R604: each refused host write records its code (the first one sticks) and changes nothing else; no
other instruction records an error, and only CLEAR_ERR and SOFT_RESET touch the record otherwise. -/
def Obligations.InterfaceErrorsAreRecordedExactly : Prop :=
  (∀ (a v code : Byte) (s : State), errorRaised a v = some code →
    exec (decodeWrite a v) s = .next (recorded code s)) ∧
  (∀ (i : Instr) (s t : State), i.wellFormed = true → raises i = false → i ≠ .clearErr → i ≠ .softReset →
    exec i s = .next t → statusErr t.status = statusErr s.status ∧ t.errCode = s.errCode)

/-- R607: an error raised while ERR = 1 sets nothing new. -/
def Obligations.ErrorWhileErrIsSetChangesNothing : Prop :=
  ∀ (a v code : Byte) (s : State), errorRaised a v = some code → statusErr s.status = true →
    exec (decodeWrite a v) s = .next s

/-- R606: accesses after an error are performed normally: apart from the record itself, and from a read of the record,
an instruction does the same whether or not an error stands. -/
def Obligations.ErrorRecordDoesNotBlockAccesses : Prop :=
  ∀ (i : Instr) (s : State), i ≠ .regRead 0x01 → i ≠ .regRead 0x02 →
    ∃ t t', exec i s = .next t ∧ exec i (withoutErrorRecord s) = .next t' ∧
      withoutErrorRecord t = withoutErrorRecord t'

/-- R308: a read of a reserved address returns 0x00, and a write to one raises RESERVED_ADDR. -/
def Obligations.ReservedAddressReadsZeroAndRefusesWrites : Prop :=
  ∀ (a v : Byte) (s : State), reservedAddress a = true →
    exec (.regRead a) s = .next { s with host := { s.host with reads := s.host.reads ++ [0x00] } } ∧
    exec (.regWrite a v) s = .next (recorded 0x04 s)

/-- R706: the order of the two byte writes of a 16-bit register does not matter, and together they write all of it. -/
def Obligations.SplitWriteOrderDoesNotMatter : Prop :=
  ∀ (lo hi : Byte) (s : State),
    (∃ t, runAll [.regWrite 0x04 lo, .regWrite 0x05 hi] s = some t ∧
      runAll [.regWrite 0x05 hi, .regWrite 0x04 lo] s = some t ∧
      t = { s with crcState := BitVec.ofNat 16 (hi.toNat * 256 + lo.toNat) }) ∧
    (∃ t, runAll [.regWrite 0x06 lo, .regWrite 0x07 hi] s = some t ∧
      runAll [.regWrite 0x07 hi, .regWrite 0x06 lo] s = some t ∧
      t = { s with crcPoly := BitVec.ofNat 16 (hi.toNat * 256 + lo.toNat) }) ∧
    (∃ t, runAll [.regWrite 0x08 lo, .regWrite 0x09 hi] s = some t ∧
      runAll [.regWrite 0x09 hi, .regWrite 0x08 lo] s = some t ∧
      t = { s with crcSeed := BitVec.ofNat 16 (hi.toNat * 256 + lo.toNat) })

/-- R458, R459: a decode command writes only STATUS.RES and the result registers, raises no error, and what it writes
depends only on that command's operands: CAP, ADDR_LEN, CRC_SEED, CRC_POLY, SCRAMBLE[0..31] and the entries it uses of
the correction tables it reads (R441, R456, R457). -/
def Obligations.DecodeFootprint : Prop :=
  (∀ (c : Instr) (s : State), isDecodeCommand c → ∃ (t : State) (r : BitVec 3) (x : Results),
    exec c s = .next t ∧ t = { s with results := x, status := (s.status &&& 0xF8) ||| r.setWidth 8 }) ∧
  (∀ (c : Instr) (s s' : State), isDecodeCommand c → sameDecodeOperands c s s' →
    ∃ t t', exec c s = .next t ∧ exec c s' = .next t' ∧ t.results = t'.results ∧
      statusRes t.status = statusRes t'.status)

/-- R441, R456, R457: DECODE does what DECODE_LEGACY does when that matches, and what DECODE_ENHANCED does when it does
not; DECODE_LEGACY ends with LEGACY_OK or NO_MATCH, and DECODE_ENHANCED never with LEGACY_OK or NONE. -/
def Obligations.DecodeTriesLegacyThenEnhanced : Prop :=
  ∀ s : State, ∃ t u v, exec .decode s = .next t ∧ exec .decodeLegacy s = .next u ∧
    exec .decodeEnhanced s = .next v ∧ (statusRes u.status = 1 ∨ statusRes u.status = 3) ∧
    (statusRes v.status = 2 ∨ statusRes v.status = 3 ∨ statusRes v.status = 4) ∧
    (statusRes u.status = 1 → t = u) ∧ (statusRes u.status = 3 → t = v)

/-- R128: after every decode command either no frame was recovered and PAYLOAD_LEN is 0, or the lengths fit. -/
def Obligations.DecodedLengthsFitTheFrame : Prop :=
  ∀ (c : Instr) (s : State), isDecodeCommand c → ∃ t, exec c s = .next t ∧
    (((statusRes t.status = 3 ∨ statusRes t.status = 4) ∧ t.results.payloadLen = 0x00) ∨
     ((statusRes t.status = 1 ∨ statusRes t.status = 2) ∧ 3 ≤ t.results.resAddrLen.toNat ∧
       t.results.resAddrLen.toNat ≤ 5 ∧ t.results.payloadLen.toNat ≤ 27 ∧
       t.results.resAddrLen.toNat + t.results.payloadLen.toNat = t.results.frameLen.toNat ∧
       t.results.frameLen.toNat ≤ 30))

/-- R443 to R447: pass 1's first match in ascending index, plain before scrambled, gives DECODE and DECODE_LEGACY the
results of R447. -/
def Obligations.FirstLegacyMatchIsRecovered : Prop :=
  ∀ (c : Instr) (s : State) (i : Nat) (h : Hypothesis), c = .decode ∨ c = .decodeLegacy → firstLegacyMatch s i h →
    ∃ t, exec c s = .next t ∧ legacyRecovered s t (i + 1) h

/-- R448 to R454: pass 2's first match gives DECODE_ENHANCED, and DECODE when no legacy candidate matches, the results
of R454 where the resolved address length fits the frame, and ENH_LEN_ERR with those of R453 where it does not. -/
def Obligations.FirstEnhancedMatchIsRecovered : Prop :=
  ∀ (c : Instr) (s : State) (i a : Nat) (h : Hypothesis), c = .decodeEnhanced ∨ (c = .decode ∧ noLegacyBelow s 30) →
    firstEnhancedMatch s i h → resolvesTo s h i a →
    ∃ t, exec c s = .next t ∧ (a ≤ i → enhancedRecovered s t i h a) ∧ (i < a → enhLenErrLeft s t i h a)

/-- R455 to R457: a decode command whose passes find no candidate ends with NO_MATCH and every result register at 0x00,
and one whose passes find one does not: DECODE_LEGACY then ends with LEGACY_OK, and DECODE_ENHANCED with ENHANCED_OK or
ENH_LEN_ERR. -/
def Obligations.NoCandidateGivesNoMatch : Prop :=
  decode 0x10030 = some .decode ∧ decode 0x10031 = some .decodeLegacy ∧ decode 0x10032 = some .decodeEnhanced ∧
  ∀ s : State,
    (∃ t, exec .decodeLegacy s = .next t ∧ (noLegacyBelow s 30 → noMatchLeft t) ∧
      (¬ noLegacyBelow s 30 → statusRes t.status = 1)) ∧
    (∃ t, exec .decodeEnhanced s = .next t ∧ (noEnhancedBelow s 29 → noMatchLeft t) ∧
      (¬ noEnhancedBelow s 29 → statusRes t.status = 2 ∨ statusRes t.status = 4)) ∧
    (∃ t, exec .decode s = .next t ∧ (noLegacyBelow s 30 → noEnhancedBelow s 29 → noMatchLeft t) ∧
      (¬ noLegacyBelow s 30 → statusRes t.status = 1) ∧
      (noLegacyBelow s 30 → ¬ noEnhancedBelow s 29 → statusRes t.status = 2 ∨ statusRes t.status = 4))

/-- R453: ENH_LEN_ERR comes only with ADDR_LEN 4 or 5, a frame length of 3 or 4 below it, and ADDR_LEN uncorrected. -/
def Obligations.LengthErrorNeedsAShortFrame : Prop :=
  ∀ (c : Instr) (s t : State), isDecodeCommand c → exec c s = .next t → statusRes t.status = 4 →
    (lenA s = 4 ∨ lenA s = 5) ∧ (t.results.frameLen = 3 ∨ t.results.frameLen = 4) ∧
    t.results.frameLen.toNat < lenA s ∧ t.results.resAddrLen.toNat = lenA s

/-- R460 (b): a legacy frame of any address, payload and hypothesis decodes to exactly them, when no smaller candidate
matches by chance. -/
def Obligations.LegacyFrameRoundTrip : Prop :=
  ∀ (c : Instr) (s : State) (h : Hypothesis) (addr payload : List Byte), c = .decode ∨ c = .decodeLegacy →
    addr.length = lenA s → 1 ≤ payload.length → payload.length ≤ 30 - lenA s → holdsLegacyFrame s h addr payload →
    noLegacyBelow s (addr.length + payload.length - 1) →
    (h = .scrambled → ¬ legacyTest s (addr.length + payload.length - 1) .plain) →
    ∃ t, exec c s = .next t ∧ statusRes t.status = 1 ∧ flagsEnh t.results.flags = false ∧
      flagsScr t.results.flags = (h == .scrambled) ∧ t.results.resAddrLen.toNat = addr.length ∧
      t.results.payloadLen.toNat = payload.length ∧
      t.results.addrOut.toList = addr ++ List.replicate (5 - addr.length) 0x00 ∧
      t.results.payloadOut.toList = payload ++ List.replicate (27 - payload.length) 0x00

/-- R460 (c): an enhanced frame of any address, payload, protocol id, ack and hypothesis decodes to exactly them, when
pass 1 (for DECODE) and the smaller candidates do not match by chance. -/
def Obligations.EnhancedFrameRoundTrip : Prop :=
  ∀ (c : Instr) (s : State) (h : Hypothesis) (addr payload : List Byte) (pid : Nat) (ack : Bool),
    c = .decodeEnhanced ∨ (c = .decode ∧ noLegacyBelow s 30) → addr.length = lenA s →
    addr.length + payload.length ≤ 28 → pid < 4 → holdsEnhancedFrame s h addr payload pid ack →
    noEnhancedBelow s (addr.length + payload.length) →
    (h = .scrambled → ¬ enhancedTest s (addr.length + payload.length) .plain) →
    ∃ t, exec c s = .next t ∧ statusRes t.status = 2 ∧ flagsEnh t.results.flags = true ∧
      flagsScr t.results.flags = (h == .scrambled) ∧ (flagsPid t.results.flags).toNat = pid ∧
      flagsAck t.results.flags = ack ∧ t.results.resAddrLen.toNat = addr.length ∧
      t.results.payloadLen.toNat = payload.length ∧ t.results.pcfLen.toNat = payload.length ∧
      t.results.addrOut.toList = addr ++ List.replicate (5 - addr.length) 0x00 ∧
      t.results.payloadOut.toList = payload ++ List.replicate (27 - payload.length) 0x00

/-- R104, R105, R108 to R111, R131: only a host write to its own address, and SOFT_RESET (which leaves CAP), changes
DATA, OFFSET, CRC_POLY, CRC_SEED, ADDR_LEN, CAP_LEN and CAP. -/
def Obligations.OperandsAreWrittenOnlyByTheHost : Prop :=
  ∀ (i : Instr) (s t : State), i.wellFormed = true → exec i s = .next t →
    (t.data ≠ s.data → i = .softReset ∨ ∃ v, i = .regWrite 0x0A v) ∧
    (t.offset ≠ s.offset → i = .softReset ∨ ∃ v, i = .regWrite 0x0B v) ∧
    (t.crcPoly ≠ s.crcPoly → i = .softReset ∨ ∃ v, i = .regWrite 0x06 v ∨ i = .regWrite 0x07 v) ∧
    (t.crcSeed ≠ s.crcSeed → i = .softReset ∨ ∃ v, i = .regWrite 0x08 v ∨ i = .regWrite 0x09 v) ∧
    (t.addrLen ≠ s.addrLen → i = .softReset ∨ ∃ v, i = .regWrite 0x0D v) ∧
    (t.capLen ≠ s.capLen → i = .softReset ∨ ∃ v, i = .regWrite 0x0E v) ∧
    (t.cap ≠ s.cap → ∃ (k : Fin 32) (v : Byte), i = .regWrite (BitVec.ofNat 8 (0x20 + k.val)) v)

/-- R106, R107, R113 and 10_state.md section 5: CRC_STATE changes only by CRC_INIT, CRC_UPDATE.n, a host write to its
bytes or SOFT_RESET; RESULT only by DESCRAMBLE, BITREV or SOFT_RESET; STATUS.RES and the result registers only by a
decode command or SOFT_RESET. -/
def Obligations.OutputsAreWrittenOnlyByTheirCommands : Prop :=
  ∀ (i : Instr) (s t : State), i.wellFormed = true → exec i s = .next t →
    (t.crcState ≠ s.crcState → i = .softReset ∨ i = .crcInit ∨ (∃ n, i = crcUpdateOf n) ∨
      ∃ v, i = .regWrite 0x04 v ∨ i = .regWrite 0x05 v) ∧
    (t.result ≠ s.result → i = .softReset ∨ i = .descramble ∨ i = .bitrev) ∧
    (t.results ≠ s.results ∨ statusRes t.status ≠ statusRes s.status → i = .softReset ∨ isDecodeCommand i)

/-- R141, R142, R160: no step changes the tables. -/
def Obligations.TablesNeverChange : Prop := ∀ s t : State, step s = .next t → t.tables = s.tables

/-- The state after reset is legal (10_state.md R113 to R128, R160). -/
def Obligations.ResetIsLegal : Prop := State.reset.Legal

/-- Every step keeps a legal state legal (10_state.md R113 to R128, 93_implementation_defined.md I9, I10). -/
def Obligations.StepKeepsStateLegal : Prop := ∀ s t : State, s.Legal → step s = .next t → t.Legal
end

