-- ==== Sys2Proof/Laws/State.lean ====
section
/-!
SUPPORT. One lemma per field per setter: the field set holds its new value and every other field is unchanged.
-/

namespace Sys2Proof.Machine

section setData
variable (s : State) (v : Byte)

@[simp] theorem State.setData_data : (s.setData v).data = v := rfl
@[simp] theorem State.setData_offset : (s.setData v).offset = s.offset := rfl
@[simp] theorem State.setData_result : (s.setData v).result = s.result := rfl
@[simp] theorem State.setData_crcState : (s.setData v).crcState = s.crcState := rfl
@[simp] theorem State.setData_crcPoly : (s.setData v).crcPoly = s.crcPoly := rfl
@[simp] theorem State.setData_crcSeed : (s.setData v).crcSeed = s.crcSeed := rfl
@[simp] theorem State.setData_addrLen : (s.setData v).addrLen = s.addrLen := rfl
@[simp] theorem State.setData_capLen : (s.setData v).capLen = s.capLen := rfl
@[simp] theorem State.setData_status : (s.setData v).status = s.status := rfl
@[simp] theorem State.setData_errCode : (s.setData v).errCode = s.errCode := rfl
@[simp] theorem State.setData_results : (s.setData v).results = s.results := rfl
@[simp] theorem State.setData_cap : (s.setData v).cap = s.cap := rfl
@[simp] theorem State.setData_tables : (s.setData v).tables = s.tables := rfl
@[simp] theorem State.setData_capDraws : (s.setData v).capDraws = s.capDraws := rfl
@[simp] theorem State.setData_host : (s.setData v).host = s.host := rfl

end setData

section setOffset
variable (s : State) (v : Fin 39)

@[simp] theorem State.setOffset_data : (s.setOffset v).data = s.data := rfl
@[simp] theorem State.setOffset_offset : (s.setOffset v).offset = v := rfl
@[simp] theorem State.setOffset_result : (s.setOffset v).result = s.result := rfl
@[simp] theorem State.setOffset_crcState : (s.setOffset v).crcState = s.crcState := rfl
@[simp] theorem State.setOffset_crcPoly : (s.setOffset v).crcPoly = s.crcPoly := rfl
@[simp] theorem State.setOffset_crcSeed : (s.setOffset v).crcSeed = s.crcSeed := rfl
@[simp] theorem State.setOffset_addrLen : (s.setOffset v).addrLen = s.addrLen := rfl
@[simp] theorem State.setOffset_capLen : (s.setOffset v).capLen = s.capLen := rfl
@[simp] theorem State.setOffset_status : (s.setOffset v).status = s.status := rfl
@[simp] theorem State.setOffset_errCode : (s.setOffset v).errCode = s.errCode := rfl
@[simp] theorem State.setOffset_results : (s.setOffset v).results = s.results := rfl
@[simp] theorem State.setOffset_cap : (s.setOffset v).cap = s.cap := rfl
@[simp] theorem State.setOffset_tables : (s.setOffset v).tables = s.tables := rfl
@[simp] theorem State.setOffset_capDraws : (s.setOffset v).capDraws = s.capDraws := rfl
@[simp] theorem State.setOffset_host : (s.setOffset v).host = s.host := rfl

end setOffset

section setResult
variable (s : State) (v : Byte)

@[simp] theorem State.setResult_data : (s.setResult v).data = s.data := rfl
@[simp] theorem State.setResult_offset : (s.setResult v).offset = s.offset := rfl
@[simp] theorem State.setResult_result : (s.setResult v).result = v := rfl
@[simp] theorem State.setResult_crcState : (s.setResult v).crcState = s.crcState := rfl
@[simp] theorem State.setResult_crcPoly : (s.setResult v).crcPoly = s.crcPoly := rfl
@[simp] theorem State.setResult_crcSeed : (s.setResult v).crcSeed = s.crcSeed := rfl
@[simp] theorem State.setResult_addrLen : (s.setResult v).addrLen = s.addrLen := rfl
@[simp] theorem State.setResult_capLen : (s.setResult v).capLen = s.capLen := rfl
@[simp] theorem State.setResult_status : (s.setResult v).status = s.status := rfl
@[simp] theorem State.setResult_errCode : (s.setResult v).errCode = s.errCode := rfl
@[simp] theorem State.setResult_results : (s.setResult v).results = s.results := rfl
@[simp] theorem State.setResult_cap : (s.setResult v).cap = s.cap := rfl
@[simp] theorem State.setResult_tables : (s.setResult v).tables = s.tables := rfl
@[simp] theorem State.setResult_capDraws : (s.setResult v).capDraws = s.capDraws := rfl
@[simp] theorem State.setResult_host : (s.setResult v).host = s.host := rfl

end setResult

section setCrcState
variable (s : State) (v : Word16)

@[simp] theorem State.setCrcState_data : (s.setCrcState v).data = s.data := rfl
@[simp] theorem State.setCrcState_offset : (s.setCrcState v).offset = s.offset := rfl
@[simp] theorem State.setCrcState_result : (s.setCrcState v).result = s.result := rfl
@[simp] theorem State.setCrcState_crcState : (s.setCrcState v).crcState = v := rfl
@[simp] theorem State.setCrcState_crcPoly : (s.setCrcState v).crcPoly = s.crcPoly := rfl
@[simp] theorem State.setCrcState_crcSeed : (s.setCrcState v).crcSeed = s.crcSeed := rfl
@[simp] theorem State.setCrcState_addrLen : (s.setCrcState v).addrLen = s.addrLen := rfl
@[simp] theorem State.setCrcState_capLen : (s.setCrcState v).capLen = s.capLen := rfl
@[simp] theorem State.setCrcState_status : (s.setCrcState v).status = s.status := rfl
@[simp] theorem State.setCrcState_errCode : (s.setCrcState v).errCode = s.errCode := rfl
@[simp] theorem State.setCrcState_results : (s.setCrcState v).results = s.results := rfl
@[simp] theorem State.setCrcState_cap : (s.setCrcState v).cap = s.cap := rfl
@[simp] theorem State.setCrcState_tables : (s.setCrcState v).tables = s.tables := rfl
@[simp] theorem State.setCrcState_capDraws : (s.setCrcState v).capDraws = s.capDraws := rfl
@[simp] theorem State.setCrcState_host : (s.setCrcState v).host = s.host := rfl

end setCrcState

section setCrcPoly
variable (s : State) (v : Word16)

@[simp] theorem State.setCrcPoly_data : (s.setCrcPoly v).data = s.data := rfl
@[simp] theorem State.setCrcPoly_offset : (s.setCrcPoly v).offset = s.offset := rfl
@[simp] theorem State.setCrcPoly_result : (s.setCrcPoly v).result = s.result := rfl
@[simp] theorem State.setCrcPoly_crcState : (s.setCrcPoly v).crcState = s.crcState := rfl
@[simp] theorem State.setCrcPoly_crcPoly : (s.setCrcPoly v).crcPoly = v := rfl
@[simp] theorem State.setCrcPoly_crcSeed : (s.setCrcPoly v).crcSeed = s.crcSeed := rfl
@[simp] theorem State.setCrcPoly_addrLen : (s.setCrcPoly v).addrLen = s.addrLen := rfl
@[simp] theorem State.setCrcPoly_capLen : (s.setCrcPoly v).capLen = s.capLen := rfl
@[simp] theorem State.setCrcPoly_status : (s.setCrcPoly v).status = s.status := rfl
@[simp] theorem State.setCrcPoly_errCode : (s.setCrcPoly v).errCode = s.errCode := rfl
@[simp] theorem State.setCrcPoly_results : (s.setCrcPoly v).results = s.results := rfl
@[simp] theorem State.setCrcPoly_cap : (s.setCrcPoly v).cap = s.cap := rfl
@[simp] theorem State.setCrcPoly_tables : (s.setCrcPoly v).tables = s.tables := rfl
@[simp] theorem State.setCrcPoly_capDraws : (s.setCrcPoly v).capDraws = s.capDraws := rfl
@[simp] theorem State.setCrcPoly_host : (s.setCrcPoly v).host = s.host := rfl

end setCrcPoly

section setCrcSeed
variable (s : State) (v : Word16)

@[simp] theorem State.setCrcSeed_data : (s.setCrcSeed v).data = s.data := rfl
@[simp] theorem State.setCrcSeed_offset : (s.setCrcSeed v).offset = s.offset := rfl
@[simp] theorem State.setCrcSeed_result : (s.setCrcSeed v).result = s.result := rfl
@[simp] theorem State.setCrcSeed_crcState : (s.setCrcSeed v).crcState = s.crcState := rfl
@[simp] theorem State.setCrcSeed_crcPoly : (s.setCrcSeed v).crcPoly = s.crcPoly := rfl
@[simp] theorem State.setCrcSeed_crcSeed : (s.setCrcSeed v).crcSeed = v := rfl
@[simp] theorem State.setCrcSeed_addrLen : (s.setCrcSeed v).addrLen = s.addrLen := rfl
@[simp] theorem State.setCrcSeed_capLen : (s.setCrcSeed v).capLen = s.capLen := rfl
@[simp] theorem State.setCrcSeed_status : (s.setCrcSeed v).status = s.status := rfl
@[simp] theorem State.setCrcSeed_errCode : (s.setCrcSeed v).errCode = s.errCode := rfl
@[simp] theorem State.setCrcSeed_results : (s.setCrcSeed v).results = s.results := rfl
@[simp] theorem State.setCrcSeed_cap : (s.setCrcSeed v).cap = s.cap := rfl
@[simp] theorem State.setCrcSeed_tables : (s.setCrcSeed v).tables = s.tables := rfl
@[simp] theorem State.setCrcSeed_capDraws : (s.setCrcSeed v).capDraws = s.capDraws := rfl
@[simp] theorem State.setCrcSeed_host : (s.setCrcSeed v).host = s.host := rfl

end setCrcSeed

section setAddrLen
variable (s : State) (v : AddrLen)

@[simp] theorem State.setAddrLen_data : (s.setAddrLen v).data = s.data := rfl
@[simp] theorem State.setAddrLen_offset : (s.setAddrLen v).offset = s.offset := rfl
@[simp] theorem State.setAddrLen_result : (s.setAddrLen v).result = s.result := rfl
@[simp] theorem State.setAddrLen_crcState : (s.setAddrLen v).crcState = s.crcState := rfl
@[simp] theorem State.setAddrLen_crcPoly : (s.setAddrLen v).crcPoly = s.crcPoly := rfl
@[simp] theorem State.setAddrLen_crcSeed : (s.setAddrLen v).crcSeed = s.crcSeed := rfl
@[simp] theorem State.setAddrLen_addrLen : (s.setAddrLen v).addrLen = v := rfl
@[simp] theorem State.setAddrLen_capLen : (s.setAddrLen v).capLen = s.capLen := rfl
@[simp] theorem State.setAddrLen_status : (s.setAddrLen v).status = s.status := rfl
@[simp] theorem State.setAddrLen_errCode : (s.setAddrLen v).errCode = s.errCode := rfl
@[simp] theorem State.setAddrLen_results : (s.setAddrLen v).results = s.results := rfl
@[simp] theorem State.setAddrLen_cap : (s.setAddrLen v).cap = s.cap := rfl
@[simp] theorem State.setAddrLen_tables : (s.setAddrLen v).tables = s.tables := rfl
@[simp] theorem State.setAddrLen_capDraws : (s.setAddrLen v).capDraws = s.capDraws := rfl
@[simp] theorem State.setAddrLen_host : (s.setAddrLen v).host = s.host := rfl

end setAddrLen

section setCapLen
variable (s : State) (v : Fin 33)

@[simp] theorem State.setCapLen_data : (s.setCapLen v).data = s.data := rfl
@[simp] theorem State.setCapLen_offset : (s.setCapLen v).offset = s.offset := rfl
@[simp] theorem State.setCapLen_result : (s.setCapLen v).result = s.result := rfl
@[simp] theorem State.setCapLen_crcState : (s.setCapLen v).crcState = s.crcState := rfl
@[simp] theorem State.setCapLen_crcPoly : (s.setCapLen v).crcPoly = s.crcPoly := rfl
@[simp] theorem State.setCapLen_crcSeed : (s.setCapLen v).crcSeed = s.crcSeed := rfl
@[simp] theorem State.setCapLen_addrLen : (s.setCapLen v).addrLen = s.addrLen := rfl
@[simp] theorem State.setCapLen_capLen : (s.setCapLen v).capLen = v := rfl
@[simp] theorem State.setCapLen_status : (s.setCapLen v).status = s.status := rfl
@[simp] theorem State.setCapLen_errCode : (s.setCapLen v).errCode = s.errCode := rfl
@[simp] theorem State.setCapLen_results : (s.setCapLen v).results = s.results := rfl
@[simp] theorem State.setCapLen_cap : (s.setCapLen v).cap = s.cap := rfl
@[simp] theorem State.setCapLen_tables : (s.setCapLen v).tables = s.tables := rfl
@[simp] theorem State.setCapLen_capDraws : (s.setCapLen v).capDraws = s.capDraws := rfl
@[simp] theorem State.setCapLen_host : (s.setCapLen v).host = s.host := rfl

end setCapLen

section setStatus
variable (s : State) (v : Byte)

@[simp] theorem State.setStatus_data : (s.setStatus v).data = s.data := rfl
@[simp] theorem State.setStatus_offset : (s.setStatus v).offset = s.offset := rfl
@[simp] theorem State.setStatus_result : (s.setStatus v).result = s.result := rfl
@[simp] theorem State.setStatus_crcState : (s.setStatus v).crcState = s.crcState := rfl
@[simp] theorem State.setStatus_crcPoly : (s.setStatus v).crcPoly = s.crcPoly := rfl
@[simp] theorem State.setStatus_crcSeed : (s.setStatus v).crcSeed = s.crcSeed := rfl
@[simp] theorem State.setStatus_addrLen : (s.setStatus v).addrLen = s.addrLen := rfl
@[simp] theorem State.setStatus_capLen : (s.setStatus v).capLen = s.capLen := rfl
@[simp] theorem State.setStatus_status : (s.setStatus v).status = v := rfl
@[simp] theorem State.setStatus_errCode : (s.setStatus v).errCode = s.errCode := rfl
@[simp] theorem State.setStatus_results : (s.setStatus v).results = s.results := rfl
@[simp] theorem State.setStatus_cap : (s.setStatus v).cap = s.cap := rfl
@[simp] theorem State.setStatus_tables : (s.setStatus v).tables = s.tables := rfl
@[simp] theorem State.setStatus_capDraws : (s.setStatus v).capDraws = s.capDraws := rfl
@[simp] theorem State.setStatus_host : (s.setStatus v).host = s.host := rfl

end setStatus

section setErrCode
variable (s : State) (v : Byte)

@[simp] theorem State.setErrCode_data : (s.setErrCode v).data = s.data := rfl
@[simp] theorem State.setErrCode_offset : (s.setErrCode v).offset = s.offset := rfl
@[simp] theorem State.setErrCode_result : (s.setErrCode v).result = s.result := rfl
@[simp] theorem State.setErrCode_crcState : (s.setErrCode v).crcState = s.crcState := rfl
@[simp] theorem State.setErrCode_crcPoly : (s.setErrCode v).crcPoly = s.crcPoly := rfl
@[simp] theorem State.setErrCode_crcSeed : (s.setErrCode v).crcSeed = s.crcSeed := rfl
@[simp] theorem State.setErrCode_addrLen : (s.setErrCode v).addrLen = s.addrLen := rfl
@[simp] theorem State.setErrCode_capLen : (s.setErrCode v).capLen = s.capLen := rfl
@[simp] theorem State.setErrCode_status : (s.setErrCode v).status = s.status := rfl
@[simp] theorem State.setErrCode_errCode : (s.setErrCode v).errCode = v := rfl
@[simp] theorem State.setErrCode_results : (s.setErrCode v).results = s.results := rfl
@[simp] theorem State.setErrCode_cap : (s.setErrCode v).cap = s.cap := rfl
@[simp] theorem State.setErrCode_tables : (s.setErrCode v).tables = s.tables := rfl
@[simp] theorem State.setErrCode_capDraws : (s.setErrCode v).capDraws = s.capDraws := rfl
@[simp] theorem State.setErrCode_host : (s.setErrCode v).host = s.host := rfl

end setErrCode

section setResults
variable (s : State) (v : Results)

@[simp] theorem State.setResults_data : (s.setResults v).data = s.data := rfl
@[simp] theorem State.setResults_offset : (s.setResults v).offset = s.offset := rfl
@[simp] theorem State.setResults_result : (s.setResults v).result = s.result := rfl
@[simp] theorem State.setResults_crcState : (s.setResults v).crcState = s.crcState := rfl
@[simp] theorem State.setResults_crcPoly : (s.setResults v).crcPoly = s.crcPoly := rfl
@[simp] theorem State.setResults_crcSeed : (s.setResults v).crcSeed = s.crcSeed := rfl
@[simp] theorem State.setResults_addrLen : (s.setResults v).addrLen = s.addrLen := rfl
@[simp] theorem State.setResults_capLen : (s.setResults v).capLen = s.capLen := rfl
@[simp] theorem State.setResults_status : (s.setResults v).status = s.status := rfl
@[simp] theorem State.setResults_errCode : (s.setResults v).errCode = s.errCode := rfl
@[simp] theorem State.setResults_results : (s.setResults v).results = v := rfl
@[simp] theorem State.setResults_cap : (s.setResults v).cap = s.cap := rfl
@[simp] theorem State.setResults_tables : (s.setResults v).tables = s.tables := rfl
@[simp] theorem State.setResults_capDraws : (s.setResults v).capDraws = s.capDraws := rfl
@[simp] theorem State.setResults_host : (s.setResults v).host = s.host := rfl

end setResults

section setHost
variable (s : State) (v : HostSide)

@[simp] theorem State.setHost_data : (s.setHost v).data = s.data := rfl
@[simp] theorem State.setHost_offset : (s.setHost v).offset = s.offset := rfl
@[simp] theorem State.setHost_result : (s.setHost v).result = s.result := rfl
@[simp] theorem State.setHost_crcState : (s.setHost v).crcState = s.crcState := rfl
@[simp] theorem State.setHost_crcPoly : (s.setHost v).crcPoly = s.crcPoly := rfl
@[simp] theorem State.setHost_crcSeed : (s.setHost v).crcSeed = s.crcSeed := rfl
@[simp] theorem State.setHost_addrLen : (s.setHost v).addrLen = s.addrLen := rfl
@[simp] theorem State.setHost_capLen : (s.setHost v).capLen = s.capLen := rfl
@[simp] theorem State.setHost_status : (s.setHost v).status = s.status := rfl
@[simp] theorem State.setHost_errCode : (s.setHost v).errCode = s.errCode := rfl
@[simp] theorem State.setHost_results : (s.setHost v).results = s.results := rfl
@[simp] theorem State.setHost_cap : (s.setHost v).cap = s.cap := rfl
@[simp] theorem State.setHost_tables : (s.setHost v).tables = s.tables := rfl
@[simp] theorem State.setHost_capDraws : (s.setHost v).capDraws = s.capDraws := rfl
@[simp] theorem State.setHost_host : (s.setHost v).host = v := rfl

end setHost

section setCap
variable (s : State) (k : Fin 32) (v : Byte)

@[simp] theorem State.setCap_data : (s.setCap k v).data = s.data := rfl
@[simp] theorem State.setCap_offset : (s.setCap k v).offset = s.offset := rfl
@[simp] theorem State.setCap_result : (s.setCap k v).result = s.result := rfl
@[simp] theorem State.setCap_crcState : (s.setCap k v).crcState = s.crcState := rfl
@[simp] theorem State.setCap_crcPoly : (s.setCap k v).crcPoly = s.crcPoly := rfl
@[simp] theorem State.setCap_crcSeed : (s.setCap k v).crcSeed = s.crcSeed := rfl
@[simp] theorem State.setCap_addrLen : (s.setCap k v).addrLen = s.addrLen := rfl
@[simp] theorem State.setCap_capLen : (s.setCap k v).capLen = s.capLen := rfl
@[simp] theorem State.setCap_status : (s.setCap k v).status = s.status := rfl
@[simp] theorem State.setCap_errCode : (s.setCap k v).errCode = s.errCode := rfl
@[simp] theorem State.setCap_results : (s.setCap k v).results = s.results := rfl
@[simp] theorem State.setCap_cap : (s.setCap k v).cap = s.cap.set k v := rfl
@[simp] theorem State.setCap_tables : (s.setCap k v).tables = s.tables := rfl
@[simp] theorem State.setCap_capDraws : (s.setCap k v).capDraws = s.capDraws := rfl
@[simp] theorem State.setCap_host : (s.setCap k v).host = s.host := rfl

end setCap

end Sys2Proof.Machine
end

