-- ==== Sys2Proof/Laws/Ops.lean ====
section
/-!
SUPPORT. What each shared operation over the registers does, once: the field lemmas of the error record, the resets,
the host's fetch and the read returned to the host, and the register-byte laws.
-/

namespace Sys2Proof.Machine

section raiseError
variable (e : ErrorKind) (s : State)

@[simp] theorem raiseError_data : (raiseError e s).data = s.data := by
  unfold raiseError; split <;> rfl
@[simp] theorem raiseError_offset : (raiseError e s).offset = s.offset := by
  unfold raiseError; split <;> rfl
@[simp] theorem raiseError_result : (raiseError e s).result = s.result := by
  unfold raiseError; split <;> rfl
@[simp] theorem raiseError_crcState : (raiseError e s).crcState = s.crcState := by
  unfold raiseError; split <;> rfl
@[simp] theorem raiseError_crcPoly : (raiseError e s).crcPoly = s.crcPoly := by
  unfold raiseError; split <;> rfl
@[simp] theorem raiseError_crcSeed : (raiseError e s).crcSeed = s.crcSeed := by
  unfold raiseError; split <;> rfl
@[simp] theorem raiseError_addrLen : (raiseError e s).addrLen = s.addrLen := by
  unfold raiseError; split <;> rfl
@[simp] theorem raiseError_capLen : (raiseError e s).capLen = s.capLen := by
  unfold raiseError; split <;> rfl
@[simp] theorem raiseError_status : (raiseError e s).status = statusSetErr s.status := rfl
@[simp] theorem raiseError_errCode : (raiseError e s).errCode = if statusErr s.status then s.errCode else errorCode e := by
  unfold raiseError; split <;> rfl
@[simp] theorem raiseError_results : (raiseError e s).results = s.results := by
  unfold raiseError; split <;> rfl
@[simp] theorem raiseError_cap : (raiseError e s).cap = s.cap := by
  unfold raiseError; split <;> rfl
@[simp] theorem raiseError_tables : (raiseError e s).tables = s.tables := by
  unfold raiseError; split <;> rfl
@[simp] theorem raiseError_capDraws : (raiseError e s).capDraws = s.capDraws := by
  unfold raiseError; split <;> rfl
@[simp] theorem raiseError_host : (raiseError e s).host = s.host := by
  unfold raiseError; split <;> rfl

end raiseError

section clearErrorRecord
variable (s : State)

@[simp] theorem clearErrorRecord_data : (clearErrorRecord s).data = s.data := rfl
@[simp] theorem clearErrorRecord_offset : (clearErrorRecord s).offset = s.offset := rfl
@[simp] theorem clearErrorRecord_result : (clearErrorRecord s).result = s.result := rfl
@[simp] theorem clearErrorRecord_crcState : (clearErrorRecord s).crcState = s.crcState := rfl
@[simp] theorem clearErrorRecord_crcPoly : (clearErrorRecord s).crcPoly = s.crcPoly := rfl
@[simp] theorem clearErrorRecord_crcSeed : (clearErrorRecord s).crcSeed = s.crcSeed := rfl
@[simp] theorem clearErrorRecord_addrLen : (clearErrorRecord s).addrLen = s.addrLen := rfl
@[simp] theorem clearErrorRecord_capLen : (clearErrorRecord s).capLen = s.capLen := rfl
@[simp] theorem clearErrorRecord_status : (clearErrorRecord s).status = statusClearErr s.status := rfl
@[simp] theorem clearErrorRecord_errCode : (clearErrorRecord s).errCode = 0x00 := rfl
@[simp] theorem clearErrorRecord_results : (clearErrorRecord s).results = s.results := rfl
@[simp] theorem clearErrorRecord_cap : (clearErrorRecord s).cap = s.cap := rfl
@[simp] theorem clearErrorRecord_tables : (clearErrorRecord s).tables = s.tables := rfl
@[simp] theorem clearErrorRecord_capDraws : (clearErrorRecord s).capDraws = s.capDraws := rfl
@[simp] theorem clearErrorRecord_host : (clearErrorRecord s).host = s.host := rfl

end clearErrorRecord

section resetRegisters
variable (s : State)

@[simp] theorem resetRegisters_data : (resetRegisters s).data = 0x00 := rfl
@[simp] theorem resetRegisters_offset : (resetRegisters s).offset = 0 := rfl
@[simp] theorem resetRegisters_result : (resetRegisters s).result = 0x00 := rfl
@[simp] theorem resetRegisters_crcState : (resetRegisters s).crcState = 0xB5D2 := rfl
@[simp] theorem resetRegisters_crcPoly : (resetRegisters s).crcPoly = 0x1021 := rfl
@[simp] theorem resetRegisters_crcSeed : (resetRegisters s).crcSeed = 0xB5D2 := rfl
@[simp] theorem resetRegisters_addrLen : (resetRegisters s).addrLen = .five := rfl
@[simp] theorem resetRegisters_capLen : (resetRegisters s).capLen = 0 := rfl
@[simp] theorem resetRegisters_status : (resetRegisters s).status = 0x00 := rfl
@[simp] theorem resetRegisters_errCode : (resetRegisters s).errCode = 0x00 := rfl
@[simp] theorem resetRegisters_results : (resetRegisters s).results = Results.cleared := rfl
@[simp] theorem resetRegisters_cap : (resetRegisters s).cap = s.cap := rfl
@[simp] theorem resetRegisters_tables : (resetRegisters s).tables = s.tables := rfl
@[simp] theorem resetRegisters_capDraws : (resetRegisters s).capDraws = s.capDraws := rfl
@[simp] theorem resetRegisters_host : (resetRegisters s).host = s.host := rfl

end resetRegisters

section powerOnReset
variable (s : State)

@[simp] theorem powerOnReset_data : (powerOnReset s).data = 0x00 := rfl
@[simp] theorem powerOnReset_offset : (powerOnReset s).offset = 0 := rfl
@[simp] theorem powerOnReset_result : (powerOnReset s).result = 0x00 := rfl
@[simp] theorem powerOnReset_crcState : (powerOnReset s).crcState = 0xB5D2 := rfl
@[simp] theorem powerOnReset_crcPoly : (powerOnReset s).crcPoly = 0x1021 := rfl
@[simp] theorem powerOnReset_crcSeed : (powerOnReset s).crcSeed = 0xB5D2 := rfl
@[simp] theorem powerOnReset_addrLen : (powerOnReset s).addrLen = .five := rfl
@[simp] theorem powerOnReset_capLen : (powerOnReset s).capLen = 0 := rfl
@[simp] theorem powerOnReset_status : (powerOnReset s).status = 0x00 := rfl
@[simp] theorem powerOnReset_errCode : (powerOnReset s).errCode = 0x00 := rfl
@[simp] theorem powerOnReset_results : (powerOnReset s).results = Results.cleared := rfl
@[simp] theorem powerOnReset_cap : (powerOnReset s).cap = Vector.ofFn (Config.capPowerOn s.capDraws) := rfl
@[simp] theorem powerOnReset_tables : (powerOnReset s).tables = s.tables := rfl
@[simp] theorem powerOnReset_capDraws : (powerOnReset s).capDraws = s.capDraws + 1 := rfl
@[simp] theorem powerOnReset_host : (powerOnReset s).host = s.host := rfl

end powerOnReset

section advance
variable (s : State)

@[simp] theorem advance_data : (advance s).data = s.data := rfl
@[simp] theorem advance_offset : (advance s).offset = s.offset := rfl
@[simp] theorem advance_result : (advance s).result = s.result := rfl
@[simp] theorem advance_crcState : (advance s).crcState = s.crcState := rfl
@[simp] theorem advance_crcPoly : (advance s).crcPoly = s.crcPoly := rfl
@[simp] theorem advance_crcSeed : (advance s).crcSeed = s.crcSeed := rfl
@[simp] theorem advance_addrLen : (advance s).addrLen = s.addrLen := rfl
@[simp] theorem advance_capLen : (advance s).capLen = s.capLen := rfl
@[simp] theorem advance_status : (advance s).status = s.status := rfl
@[simp] theorem advance_errCode : (advance s).errCode = s.errCode := rfl
@[simp] theorem advance_results : (advance s).results = s.results := rfl
@[simp] theorem advance_cap : (advance s).cap = s.cap := rfl
@[simp] theorem advance_tables : (advance s).tables = s.tables := rfl
@[simp] theorem advance_capDraws : (advance s).capDraws = s.capDraws := rfl
@[simp] theorem advance_host : (advance s).host = { s.host with pc := s.host.pc + 1 } := rfl

end advance

section returnToHost
variable (v : Byte) (s : State)

@[simp] theorem returnToHost_data : (returnToHost v s).data = s.data := rfl
@[simp] theorem returnToHost_offset : (returnToHost v s).offset = s.offset := rfl
@[simp] theorem returnToHost_result : (returnToHost v s).result = s.result := rfl
@[simp] theorem returnToHost_crcState : (returnToHost v s).crcState = s.crcState := rfl
@[simp] theorem returnToHost_crcPoly : (returnToHost v s).crcPoly = s.crcPoly := rfl
@[simp] theorem returnToHost_crcSeed : (returnToHost v s).crcSeed = s.crcSeed := rfl
@[simp] theorem returnToHost_addrLen : (returnToHost v s).addrLen = s.addrLen := rfl
@[simp] theorem returnToHost_capLen : (returnToHost v s).capLen = s.capLen := rfl
@[simp] theorem returnToHost_status : (returnToHost v s).status = s.status := rfl
@[simp] theorem returnToHost_errCode : (returnToHost v s).errCode = s.errCode := rfl
@[simp] theorem returnToHost_results : (returnToHost v s).results = s.results := rfl
@[simp] theorem returnToHost_cap : (returnToHost v s).cap = s.cap := rfl
@[simp] theorem returnToHost_tables : (returnToHost v s).tables = s.tables := rfl
@[simp] theorem returnToHost_capDraws : (returnToHost v s).capDraws = s.capDraws := rfl
@[simp] theorem returnToHost_host : (returnToHost v s).host = { s.host with reads := s.host.reads ++ [v] } := rfl

end returnToHost

/-- The first error is kept: with ERR already set, an error records nothing new (60_exceptions.md R607). -/
theorem raiseError_of_err (e : ErrorKind) (s : State) (h : statusErr s.status = true) : raiseError e s = s := by
  have hs : statusSetErr s.status = s.status := by
    unfold statusErr at h
    unfold statusSetErr
    revert h
    generalize s.status = b
    revert b
    decide
  unfold raiseError
  rw [if_pos h, hs]
  rfl

/-- Every error leaves ERR set (60_exceptions.md R603). -/
@[simp] theorem statusErr_statusSetErr (b : Byte) : statusErr (statusSetErr b) = true := by
  simp [statusErr, statusSetErr]

/-- Clearing the record clears ERR (43_control.md R502). -/
@[simp] theorem statusErr_statusClearErr (b : Byte) : statusErr (statusClearErr b) = false := by
  simp [statusErr, statusClearErr]

/-- ERR does not overlap RES (10_state.md R113). -/
@[simp] theorem statusRes_statusSetErr (b : Byte) : statusRes (statusSetErr b) = statusRes b := by
  revert b; decide

/-- Clearing ERR leaves RES alone (43_control.md R502). -/
@[simp] theorem statusRes_statusClearErr (b : Byte) : statusRes (statusClearErr b) = statusRes b := by
  revert b; decide

/-- RES reads back as written (10_state.md R113). -/
@[simp] theorem statusRes_statusWithRes (b : Byte) (c : BitVec 3) : statusRes (statusWithRes b c) = c := by
  revert b c; decide

/-- Writing RES leaves ERR alone (42_frame_decoder.md R442). -/
@[simp] theorem statusErr_statusWithRes (b : Byte) (c : BitVec 3) : statusErr (statusWithRes b c) = statusErr b := by
  revert b c; decide

/-- The fields of FLAGS read back as assembled (10_state.md R121). -/
@[simp] theorem flagsEnh_flagsOf (e sc a : Bool) (p : BitVec 2) : flagsEnh (flagsOf e sc a p) = e := by
  revert e sc a p; decide

@[simp] theorem flagsScr_flagsOf (e sc a : Bool) (p : BitVec 2) : flagsScr (flagsOf e sc a p) = sc := by
  revert e sc a p; decide

@[simp] theorem flagsAck_flagsOf (e sc a : Bool) (p : BitVec 2) : flagsAck (flagsOf e sc a p) = a := by
  revert e sc a p; decide

@[simp] theorem flagsPid_flagsOf (e sc a : Bool) (p : BitVec 2) : flagsPid (flagsOf e sc a p) = p := by
  revert e sc a p; decide

/-- FLAGS[7:5] are 0 (10_state.md R121). -/
theorem flagsOf_reserved (e sc a : Bool) (p : BitVec 2) : (flagsOf e sc a p).extractLsb' 5 3 = 0 := by
  revert e sc a p; decide

/-- The bits of a 16-bit register with bits 7:0 replaced (20_memory.md R206). -/
theorem getLsbD_withLoByte (v : Word16) (b : Byte) (i : Nat) :
    (withLoByte v b).getLsbD i = if i < 8 then b.getLsbD i else (hiByte v).getLsbD (i - 8) :=
  (BitVec.getLsbD_append (x := hiByte v) (y := b)).trans (by split <;> rfl)

/-- The bits of a 16-bit register with bits 15:8 replaced (20_memory.md R206). -/
theorem getLsbD_withHiByte (v : Word16) (b : Byte) (i : Nat) :
    (withHiByte v b).getLsbD i = if i < 8 then (loByte v).getLsbD i else b.getLsbD (i - 8) :=
  (BitVec.getLsbD_append (x := b) (y := loByte v)).trans (by split <;> rfl)

/-- A byte written to one half of a 16-bit register reads back (20_memory.md R206). -/
@[simp] theorem loByte_withLoByte (v : Word16) (b : Byte) : loByte (withLoByte v b) = b := by
  apply BitVec.eq_of_getLsbD_eq
  intro i hi
  simp [loByte, getLsbD_withLoByte, hi]

@[simp] theorem hiByte_withHiByte (v : Word16) (b : Byte) : hiByte (withHiByte v b) = b := by
  apply BitVec.eq_of_getLsbD_eq
  intro i hi
  simp [hiByte, getLsbD_withHiByte, hi]

/-- The other half keeps its value (20_memory.md R209). -/
@[simp] theorem hiByte_withLoByte (v : Word16) (b : Byte) : hiByte (withLoByte v b) = hiByte v := by
  apply BitVec.eq_of_getLsbD_eq
  intro i hi
  simp [hiByte, getLsbD_withLoByte, hi]

@[simp] theorem loByte_withHiByte (v : Word16) (b : Byte) : loByte (withHiByte v b) = loByte v := by
  apply BitVec.eq_of_getLsbD_eq
  intro i hi
  simp [loByte, getLsbD_withHiByte, hi]

end Sys2Proof.Machine
end

