-- ==== Sys2Proof/Laws/Crc.lean ====
section
/-!
SUPPORT. What the CRC primitive does (41_crc_engine.md R421): its loop splits at any count, is linear over XOR, and
with polynomial 0 is a plain shift.
-/

namespace Sys2Proof.Machine

/-- No iteration leaves only the XOR (41_crc_engine.md R424). -/
@[simp] theorem crcShifts_zero (poly s : Word16) : crcShifts poly 0 s = s := rfl

/-- The loop runs one iteration and then the rest. -/
@[simp] theorem crcShifts_succ (poly s : Word16) (n : Nat) :
    crcShifts poly (n + 1) s = crcShifts poly n (crcShift poly s) := rfl

/-- The loop splits at any count. -/
theorem crcShifts_add (poly s : Word16) (m n : Nat) :
    crcShifts poly (m + n) s = crcShifts poly n (crcShifts poly m s) := by
  induction m generalizing s with
  | zero => simp
  | succ m ih => rw [Nat.succ_add, crcShifts_succ, ih, crcShifts_succ]

/-- One iteration is linear over XOR (41_crc_engine.md R422). -/
theorem crcShift_xor (poly x y : Word16) : crcShift poly (x ^^^ y) = crcShift poly x ^^^ crcShift poly y := by
  have hxy : (x ^^^ y).getLsbD 15 = (x.getLsbD 15 ^^ y.getLsbD 15) := BitVec.getLsbD_xor
  unfold crcShift
  rw [hxy, BitVec.shiftLeft_xor_distrib]
  cases x.getLsbD 15 <;> cases y.getLsbD 15 <;> simp only [Bool.bne_false, Bool.bne_true, Bool.not_true,
    Bool.not_false, if_true, if_false, Bool.false_eq_true] <;> ac_nf
  simp

/-- The loop is linear over XOR (41_crc_engine.md R422). -/
theorem crcShifts_xor (poly x y : Word16) (n : Nat) :
    crcShifts poly n (x ^^^ y) = crcShifts poly n x ^^^ crcShifts poly n y := by
  induction n generalizing x y with
  | zero => rfl
  | succ n ih => rw [crcShifts_succ, crcShift_xor, ih, crcShifts_succ, crcShifts_succ]

/-- One iteration over a state whose top bit is clear only shifts it (41_crc_engine.md R421). -/
theorem crcShift_of_clear (poly x : Word16) (h : x.getLsbD 15 = false) : crcShift poly x = x <<< 1 := by
  unfold crcShift
  rw [h]
  rfl

/-- With polynomial 0 the loop is a shift by its count (41_crc_engine.md R424). -/
theorem crcShifts_poly_zero (s : Word16) (n : Nat) : crcShifts 0 n s = s <<< n := by
  induction n generalizing s with
  | zero => simp
  | succ n ih =>
    have h : crcShift 0 s = s <<< 1 := by unfold crcShift; split <;> simp
    rw [crcShifts_succ, h, ih, ← BitVec.shiftLeft_add, Nat.add_comm]

/-- CRC_UPDATE.n writes CRC_STATE and nothing else (41_crc_engine.md R424). -/
theorem crcUpdateState_eq (n : Nat) (s : State) :
    crcUpdateState n s = { s with crcState := crcUpdate s.crcState s.data n s.crcPoly } := rfl

/-- CRC_INIT writes CRC_STATE and nothing else (41_crc_engine.md R423). -/
theorem crcInit_eq (s : State) : crcInit s = { s with crcState := s.crcSeed } := rfl

end Sys2Proof.Machine
end

