-- ==== Sys2Proof/Laws/Decode.lean ====
section
/-!
SUPPORT. The fields of the bus words the encoder writes (30_encoding.md R302), and the command map against the list of
assigned bytes (R304).
-/

namespace Sys2Proof

/-- The bits of a word put together from W, ADDR and DATA. -/
theorem getLsbD_busFields (w : BitVec 1) (a v : Byte) (i : Nat) :
    (w ++ a ++ v : BitVec (1 + 8 + 8)).getLsbD i =
      if i < 8 then v.getLsbD i else if i - 8 < 8 then a.getLsbD (i - 8) else w.getLsbD (i - 8 - 8) := by
  rw [BitVec.getLsbD_append, BitVec.getLsbD_append]

@[simp] theorem busIsWrite_busWrite (a v : Byte) : busIsWrite (busWrite a v) = true :=
  getLsbD_busFields 1#1 a v 16

@[simp] theorem busIsWrite_busRead (a : Byte) : busIsWrite (busRead a) = false :=
  getLsbD_busFields 0#1 a 0#8 16

@[simp] theorem busAddr_busWrite (a v : Byte) : busAddr (busWrite a v) = a := by
  apply BitVec.eq_of_getLsbD_eq
  intro i hi
  simp only [busAddr, BitVec.getLsbD_extractLsb', hi, decide_true, Bool.true_and]
  exact (getLsbD_busFields 1#1 a v (8 + i)).trans (by simp [hi])

@[simp] theorem busAddr_busRead (a : Byte) : busAddr (busRead a) = a := by
  apply BitVec.eq_of_getLsbD_eq
  intro i hi
  simp only [busAddr, BitVec.getLsbD_extractLsb', hi, decide_true, Bool.true_and]
  exact (getLsbD_busFields 0#1 a 0#8 (8 + i)).trans (by simp [hi])

@[simp] theorem busData_busWrite (a v : Byte) : busData (busWrite a v) = v := by
  apply BitVec.eq_of_getLsbD_eq
  intro i hi
  simp only [busData, BitVec.getLsbD_extractLsb', hi, decide_true, Bool.true_and, Nat.zero_add]
  exact (getLsbD_busFields 1#1 a v i).trans (by simp [hi])

@[simp] theorem busData_busRead (a : Byte) : busData (busRead a) = 0x00 := by
  apply BitVec.eq_of_getLsbD_eq
  intro i hi
  simp only [busData, BitVec.getLsbD_extractLsb', hi, decide_true, Bool.true_and, Nat.zero_add]
  exact (getLsbD_busFields 0#1 a 0#8 i).trans (by simp [hi])

/-- A word is its three fields (30_encoding.md R302). -/
theorem bus_fields_eq (w : BusWord) :
    w = (BitVec.ofBool (busIsWrite w) ++ busAddr w ++ busData w : BitVec (1 + 8 + 8)) := by
  apply BitVec.eq_of_getLsbD_eq
  intro i hi
  refine Eq.trans ?_ (getLsbD_busFields _ (busAddr w) (busData w) i).symm
  simp only [busAddr, busData, busIsWrite, BitVec.getLsbD_extractLsb', BitVec.getLsbD_ofBool]
  split
  · simp [*]
  · split
    · next h1 h2 => simp only [h2, decide_true, Bool.true_and]; congr 1; omega
    · next h1 h2 => obtain rfl : i = 16 := by omega
                    simp

/-- Exactly the assigned bytes are commands (30_encoding.md R304, R307). -/
theorem commandOf_isSome (c : Byte) : (commandOf c).isSome = assignedCommands.contains c := by
  revert c; decide

/-- The encoder's word of a command is the write of its byte to CMD (30_encoding.md R304). -/
theorem encode_of_commandOf {c : Byte} {i : Instr} (h : commandOf c = some i) : encode i = busWrite 0x00 c := by
  have hall : ∀ c : Byte, ((commandOf c).map encode).getD (busWrite 0x00 c) = busWrite 0x00 c := by decide
  have := hall c
  simpa [h] using this

end Sys2Proof
end

