-- ==== Sys2Proof/Laws/Descrambler.lean ====
section
/-!
SUPPORT. What the descrambler and the bit reversal do (40_tables_descrambler.md R401 to R404).
-/

namespace Sys2Proof.Machine

/-- Bit i of the reversal is bit 7 - i of the byte (40_tables_descrambler.md R401). -/
theorem getLsbD_bitReverse (b : Byte) (i : Nat) (h : i < 8) : (bitReverse b).getLsbD i = b.getLsbD (7 - i) := by
  simp only [bitReverse, BitVec.getLsbD_reverse, BitVec.getMsbD]
  simp [h]

/-- DESCRAMBLE writes RESULT and nothing else (40_tables_descrambler.md R403). -/
theorem descrambleData_eq (s : State) :
    descrambleData s = { s with result := s.data ^^^ s.tables.scramble[s.offset] } := rfl

/-- BITREV writes RESULT and nothing else (40_tables_descrambler.md R404). -/
theorem bitReverseData_eq (s : State) : bitReverseData s = { s with result := bitReverse s.data } := rfl

end Sys2Proof.Machine
end

