-- ==== Sys2Proof/Laws/FrameDecoder.lean ====
section
/-!
SUPPORT. What the frame decoder's shared operations do: the candidate search finds the first match, the passes'
frame lengths stay in their ranges, and the resolved address length is the assumed one or a consistent one.
-/

namespace Sys2Proof.Machine

/-- The search ends at a candidate whose test succeeds, and every earlier candidate's test failed. -/
theorem searchCandidates_some {s : State} {test : Word16 → Nat → Option Hypothesis} {crc : Word16} {is : List Nat}
    {i : Nat} {h : Hypothesis} (hs : searchCandidates s test crc is = some (i, h)) :
    ∃ before after, is = before ++ i :: after ∧
      test ((before ++ [i]).foldl (crcOverCap s) crc) i = some h ∧
      ∀ pre j post, before = pre ++ j :: post → test ((pre ++ [j]).foldl (crcOverCap s) crc) j = none := by
  induction is generalizing crc with
  | nil => simp [searchCandidates] at hs
  | cons k rest ih =>
    unfold searchCandidates at hs
    split at hs
    · next h' ht =>
      simp only [Option.some.injEq, Prod.mk.injEq] at hs
      obtain ⟨rfl, rfl⟩ := hs
      exact ⟨[], rest, rfl, by simpa using ht, by simp⟩
    · next ht =>
      obtain ⟨before, after, hl, hm, hn⟩ := ih hs
      refine ⟨k :: before, after, by simp [hl], by simpa using hm, ?_⟩
      intro pre j post hp
      cases pre with
      | nil => simp at hp; obtain ⟨rfl, -⟩ := hp; simpa using ht
      | cons p pre => simp at hp; obtain ⟨rfl, hp⟩ := hp; simpa using hn pre j post hp

/-- The search finds nothing exactly when every candidate's test fails. -/
theorem searchCandidates_none {s : State} {test : Word16 → Nat → Option Hypothesis} {crc : Word16} {is : List Nat} :
    searchCandidates s test crc is = none ↔
      ∀ pre j post, is = pre ++ j :: post → test ((pre ++ [j]).foldl (crcOverCap s) crc) j = none := by
  induction is generalizing crc with
  | nil => simp [searchCandidates]
  | cons k rest ih =>
    unfold searchCandidates
    split
    · next h' ht =>
      simp only [reduceCtorEq, false_iff, not_forall]
      exact ⟨[], k, rest, rfl, by simp [ht]⟩
    · next ht =>
      rw [ih]
      constructor
      · intro h pre j post hp
        cases pre with
        | nil => simp at hp; obtain ⟨rfl, -⟩ := hp; simpa using ht
        | cons p pre => simp at hp; obtain ⟨rfl, hp⟩ := hp; simpa using h pre j post hp
      · intro h pre j post hp
        simpa using h (k :: pre) j post (by simp [hp])

/-- PL is taken before SC (42_frame_decoder.md R443). -/
theorem firstHypothesis_eq_some {test : Hypothesis → Bool} {h : Hypothesis} :
    firstHypothesis test = some h ↔ test h = true ∧ (h = .scrambled → test .plain = false) := by
  unfold firstHypothesis
  cases h <;> cases hp : test .plain <;> cases hs : test .scrambled <;> simp

theorem firstHypothesis_eq_none {test : Hypothesis → Bool} :
    firstHypothesis test = none ↔ ∀ h, test h = false := by
  unfold firstHypothesis
  constructor
  · intro h t
    cases hp : test .plain <;> cases hs : test .scrambled <;> cases t <;> simp_all
  · intro h
    simp [h]

/-- The address length is 3, 4 or 5 (10_state.md R110). -/
theorem addrLenNat_bounds (a : AddrLen) : 3 ≤ addrLenNat a ∧ addrLenNat a ≤ 5 := by
  cases a <;> decide

/-- A pass-1 match has a payload and ends with its CRC inside the capture (42_frame_decoder.md R445, R446). -/
theorem legacyPass_bounds {s : State} {m : FrameMatch} (h : legacyPass s = some m) :
    addrLenNat s.addrLen + 1 ≤ m.frameLen ∧ m.frameLen ≤ 30 := by
  obtain ⟨⟨i, hyp⟩, hs, rfl⟩ := Option.map_eq_some_iff.mp h
  obtain ⟨before, after, hl, -, -⟩ := searchCandidates_some hs
  have hi : i ∈ List.range' (addrLenNat s.addrLen) (30 - addrLenNat s.addrLen) := by simp [hl]
  have ha := addrLenNat_bounds s.addrLen
  rw [List.mem_range'_1] at hi
  simp only
  omega

/-- A pass-2 match has frame length 3 to 28 (42_frame_decoder.md R448, R450). -/
theorem enhancedPass_bounds {s : State} {m : FrameMatch} (h : enhancedPass s = some m) :
    3 ≤ m.frameLen ∧ m.frameLen ≤ 28 := by
  obtain ⟨⟨i, hyp⟩, hs, rfl⟩ := Option.map_eq_some_iff.mp h
  obtain ⟨before, after, hl, ht, -⟩ := searchCandidates_some hs
  have hi : i ∈ List.range 29 := by simp [hl]
  rw [List.mem_range] at hi
  split at ht
  · next h3 => exact ⟨h3, by simp only; omega⟩
  · simp at ht

/-- A consistent address length fits the frame (42_frame_decoder.md R453). -/
theorem addrLenNat_le_of_consistent {s : State} {m : FrameMatch} {a : AddrLen} (h : pcfConsistent s m a = true) :
    addrLenNat a ≤ m.frameLen := by
  simp only [pcfConsistent, beq_iff_eq] at h
  omega

/-- The resolved address length is consistent, or it is the assumed one and none is (42_frame_decoder.md R452). -/
theorem resolvedAddrLen_cases (s : State) (m : FrameMatch) :
    pcfConsistent s m (resolvedAddrLen s m) = true ∨
      (resolvedAddrLen s m = s.addrLen ∧ ∀ a, pcfConsistent s m a = false) := by
  unfold resolvedAddrLen
  split
  · next h => exact .inl h
  · next h =>
    cases h3 : pcfConsistent s m .three <;> cases h4 : pcfConsistent s m .four <;>
      cases h5 : pcfConsistent s m .five <;> simp [h3, h4, h5]
    exact .inr fun a => by cases a <;> assumption

/-- A decode command writes STATUS.RES and the result registers and nothing else (42_frame_decoder.md R458). -/
theorem writeOutcome_eq (s : State) (o : DecodeOutcome) :
    writeOutcome s o =
      { s with results := o.results, status := statusWithRes s.status (resultCode o.res) } := rfl

/-- Every decode outcome is one pass's match or no match (42_frame_decoder.md R441). -/
theorem decodeOutcome_cases (s : State) :
    (∃ m, legacyPass s = some m ∧ decodeOutcome s = legacyEnd s m) ∨
    (∃ m, legacyPass s = none ∧ enhancedPass s = some m ∧ decodeOutcome s = enhancedEnd s m) ∨
    (legacyPass s = none ∧ enhancedPass s = none ∧ decodeOutcome s = noMatchEnd) := by
  unfold decodeOutcome enhancedOutcome
  cases h1 : legacyPass s with
  | some m => exact .inl ⟨m, rfl, rfl⟩
  | none =>
    cases h2 : enhancedPass s with
    | some m => exact .inr (.inl ⟨m, rfl, rfl, rfl⟩)
    | none => exact .inr (.inr ⟨rfl, rfl, rfl⟩)

end Sys2Proof.Machine
end

