-- ==== Sys2Proof/Laws/HostAccess.lean ====
section
/-!
SUPPORT. The address map and the host's accesses: each array's addresses, no two addresses of one register byte, what
a range-checked store does, and a read back of what a write stored.
-/

namespace Sys2Proof.Machine

/-- The addresses of the arrays (20_memory.md R205). -/
theorem regAt_addrOut : ∀ k : Fin 5, regAt (BitVec.ofNat 8 (0x18 + k.val)) = .addrOut k := by decide
theorem regAt_cap : ∀ k : Fin 32, regAt (BitVec.ofNat 8 (0x20 + k.val)) = .cap k := by decide
theorem regAt_payloadOut : ∀ k : Fin 27, regAt (BitVec.ofNat 8 (0x40 + k.val)) = .payloadOut k := by decide
theorem regAt_scrTable : ∀ k : Fin 39, regAt (BitVec.ofNat 8 (0x60 + k.val)) = .scrTable k := by decide

/-- The address of a register byte, 0x03 standing for the reserved ones (20_memory.md R205). -/
def addressOf (r : RegByte) : Byte :=
  match r with
  | .cmd => 0x00
  | .status => 0x01
  | .errCode => 0x02
  | .crcStateLo => 0x04
  | .crcStateHi => 0x05
  | .crcPolyLo => 0x06
  | .crcPolyHi => 0x07
  | .crcSeedLo => 0x08
  | .crcSeedHi => 0x09
  | .data => 0x0A
  | .offset => 0x0B
  | .result => 0x0C
  | .addrLen => 0x0D
  | .capLen => 0x0E
  | .flags => 0x10
  | .frameLen => 0x11
  | .resAddrLen => 0x12
  | .payloadLen => 0x13
  | .pcfLen => 0x14
  | .addrOut k => BitVec.ofNat 8 (0x18 + k.val)
  | .cap k => BitVec.ofNat 8 (0x20 + k.val)
  | .payloadOut k => BitVec.ofNat 8 (0x40 + k.val)
  | .scrTable k => BitVec.ofNat 8 (0x60 + k.val)
  | .reserved => 0x03

/-- Only a reserved address shares its register byte with another (20_memory.md R205, 10_state.md R103: no register is
aliased). -/
theorem addressOf_regAt : ∀ a : Byte, regAt a = .reserved ∨ addressOf (regAt a) = a := by decide

/-- Two addresses of one register byte are equal unless it is reserved. -/
theorem regAt_injective {a b : Byte} (h : regAt a = regAt b) (hr : regAt a ≠ .reserved) : a = b := by
  have ha := (addressOf_regAt a).resolve_left hr
  have hb := (addressOf_regAt b).resolve_left (h ▸ hr)
  rw [← ha, ← hb, h]

/-- A range-checked store stores the legal value or records ILLEGAL_VALUE (20_memory.md R204 (c)). -/
@[simp] theorem storeChecked_some {α : Type} (v : α) (store : α → State) (s : State) :
    storeChecked (some v) store s = store v := rfl

@[simp] theorem storeChecked_none {α : Type} (store : α → State) (s : State) :
    storeChecked none store s = raiseError .illegalValue s := rfl

/-- A legal OFFSET byte reads back (10_state.md R105). -/
theorem offsetOf_eq_some {v : Byte} {o : Fin 39} (h : offsetOf v = some o) : BitVec.ofNat 8 o.val = v := by
  unfold offsetOf at h
  split at h <;> simp at h
  subst h
  simp

/-- A legal ADDR_LEN byte reads back (10_state.md R110). -/
theorem addrLenOf_eq_some {v : Byte} {a : AddrLen} (h : addrLenOf v = some a) : addrLenByte a = v := by
  revert v a; decide

/-- A legal CAP_LEN byte reads back (10_state.md R111). -/
theorem capLenOf_eq_some {v : Byte} {c : Fin 33} (h : capLenOf v = some c) : BitVec.ofNat 8 c.val = v := by
  unfold capLenOf at h
  split at h <;> simp at h
  subst h
  simp

end Sys2Proof.Machine
end

