-- ==== Sys2Proof/Laws/PerInstr.lean ====
section
/-!
SUPPORT. Families of statements about every instruction as syntax, one lemma per constructor.
WordAccepted: the bus word of any instruction, well-formed or not, is one the decoder accepts (30_encoding.md R301,
R302).
-/

namespace Sys2Proof.Laws.WordAccepted

open Sys2Proof

/-- The decoder accepts the word the encoder writes for the instruction. -/
def Statement (i : Instr) : Prop := (Sys2Proof.decode (Sys2Proof.encode i)).isSome = true

/-- A write word is always accepted. -/
theorem write_accepted (a v : Byte) : (Sys2Proof.decode (busWrite a v)).isSome = true := by
  simp [Sys2Proof.decode]

/-- A read word is always accepted, since its DATA is 0x00. -/
theorem read_accepted (a : Byte) : (Sys2Proof.decode (busRead a)).isSome = true := by
  simp [Sys2Proof.decode]

theorem nop : Statement .nop := write_accepted _ _
theorem crcInit : Statement .crcInit := write_accepted _ _
theorem clearErr : Statement .clearErr := write_accepted _ _
theorem crcUpdate0 : Statement .crcUpdate0 := write_accepted _ _
theorem crcUpdate1 : Statement .crcUpdate1 := write_accepted _ _
theorem crcUpdate2 : Statement .crcUpdate2 := write_accepted _ _
theorem crcUpdate3 : Statement .crcUpdate3 := write_accepted _ _
theorem crcUpdate4 : Statement .crcUpdate4 := write_accepted _ _
theorem crcUpdate5 : Statement .crcUpdate5 := write_accepted _ _
theorem crcUpdate6 : Statement .crcUpdate6 := write_accepted _ _
theorem crcUpdate7 : Statement .crcUpdate7 := write_accepted _ _
theorem crcUpdate8 : Statement .crcUpdate8 := write_accepted _ _
theorem descramble : Statement .descramble := write_accepted _ _
theorem bitrev : Statement .bitrev := write_accepted _ _
theorem decode : Statement .decode := write_accepted _ _
theorem decodeLegacy : Statement .decodeLegacy := write_accepted _ _
theorem decodeEnhanced : Statement .decodeEnhanced := write_accepted _ _
theorem softReset : Statement .softReset := write_accepted _ _
theorem regRead (addr : Byte) : Statement (.regRead addr) := read_accepted _
theorem regWrite (addr value : Byte) : Statement (.regWrite addr value) := write_accepted _ _

end Sys2Proof.Laws.WordAccepted
end

