-- ==== Sys2Proof/Tests/Slice0.lean ====
section
/-!
SUPPORT. Small tests and witnesses. Every expected value is from the spec: the words of 30_encoding.md R302 and R304,
the examples of the instruction rules, and the vectors of 95_test_vectors.md, whose tables are its test instance T1.
A witness shows a state and operands that meet a statement's hypotheses together.
-/

namespace Sys2Proof.Tests

-- One theorem at a time: the kernel checks below are many, and a thread for each would take much memory.
set_option Elab.async false

open Sys2Proof Sys2Proof.Machine Sys2Proof.Claims

/-- The next state of an outcome. -/
def nextOf (o : Host.Outcome State Fault Refusal) : Option State :=
  match o with
  | .next t => some t
  | .fault _ => none
  | .refused _ => none

/-- A refusal's reason. -/
def refusalOf (o : Host.Outcome State Fault Refusal) : Option Refusal :=
  match o with
  | .next _ => none
  | .fault _ => none
  | .refused r => some r

/-- A correction table of T1 from its first entry (95_test_vectors.md section 0). -/
def t1Correction (first : Nat) : Vector Word16 35 := Vector.ofFn fun k => BitVec.ofNat 16 (first + 0x0101 * k.val)

/-- The test instance T1 (95_test_vectors.md section 0). -/
def t1 : Tables where
  scramble := Vector.ofFn fun k => BitVec.ofNat 8 (0x3B + 0x59 * k.val)
  xorPlLeg := t1Correction 0x1100
  xorScLeg := t1Correction 0x2200
  xorPlEnh := t1Correction 0x3300
  xorScEnh := t1Correction 0x4400

/-- The reset state under T1 with an address length, and a capture that continues in the filler pattern with C3 at the
first index after the given bytes (95_test_vectors.md section 0). -/
def withCapture (a : AddrLen) (bytes : List Byte) : State :=
  { State.reset with
    tables := t1
    addrLen := a
    cap := Vector.ofFn fun k => bytes.getD k.val (if (k.val + bytes.length) % 2 = 0 then 0xC3 else 0x3C) }

/-- The reset state under T1 with an all-zero capture, vector V-N1. -/
def base : State := withCapture .three (List.replicate 32 0x00)

/-- `base` with an error recorded. -/
def withErr : State := { base with status := 0x80, errCode := 0x02 }

/-- Vector V-L1: legacy, plain, A = 3. -/
def vL1 : State := withCapture .three [0x11, 0x22, 0x33, 0x0F, 0xF0, 0xA5, 0x5A, 0x4C, 0xC5]

/-- Vector V-L2: legacy, scrambled, A = 5. -/
def vL2 : State := withCapture .five [0xDC, 0x73, 0x0A, 0xA1, 0x78, 0x78, 0x11, 0x6A, 0xC3, 0x5C]

/-- Vector V-L3: the longest legacy frame, A = 4. -/
def vL3 : State := withCapture .four ([0xEF, 0xBE, 0xAD, 0xDE, 0x00, 0x80, 0x40, 0xC0, 0x20, 0xA0, 0x60, 0xE0, 0x10, 0x90] ++
  [0x50, 0xD0, 0x30, 0xB0, 0x70, 0xF0, 0x08, 0x88, 0x48, 0xC8, 0x28, 0xA8, 0x68, 0xE8, 0x18, 0x98, 0xEC, 0x7D])

/-- Vector V-E1: enhanced, plain, A = 5, pid 0, ack 0. -/
def vE1 : State := withCapture .five [0xA5, 0xA4, 0xA3, 0xA2, 0xA1, 0x04, 0x00, 0x7F, 0x9B, 0x64, 0x03]

/-- Vector V-E8: enhanced, plain, A = 5, pid 3, ack 1. -/
def vE8 : State := withCapture .five [0xA5, 0xA4, 0xA3, 0xA2, 0xA1, 0x05, 0xC0, 0x7F, 0xBA, 0x00, 0x03]

/-- Vector V-E9: enhanced, scrambled, A = 3. -/
def vE9 : State := withCapture .three [0x0B, 0xB4, 0xFD, 0x4F, 0xCB, 0x27, 0x86, 0xF5, 0x6A, 0x7D, 0x43]

/-- Vector V-E10: enhanced with a 3-byte address, while ADDR_LEN is 5. -/
def vE10 : State := withCapture .five [0x30, 0x20, 0x10, 0x08, 0x94, 0xDF, 0xD7, 0x5F, 0x41, 0x55, 0xC3]

/-- Vector V-E12: a match at L = 3 with no room for the address, A = 5. -/
def vE12 : State := withCapture .five [0x30, 0x20, 0x10, 0x0A, 0x06, 0xBE, 0x43]

/-- Vector V-E11: an empty enhanced payload, A = 4 = L. -/
def vE11 : State := withCapture .four [0x04, 0x03, 0x02, 0x01, 0x01, 0xD6, 0xB0, 0x83]

/-- A host program placed in front of the block. -/
def withProgram (ws : List BusWord) (s : State) : State := { s with host := { s.host with program := ws } }

/-! ### Well-formedness, decoding and encoding -/

/-- The one check refuses an assigned command byte in a REG_WRITE at CMD (43_control.md R505). -/
theorem test_ill_formed_command_write_refused : (Instr.regWrite 0x00 0x10).wellFormed = false := by decide

theorem test_reserved_command_write_well_formed : (Instr.regWrite 0x00 0x19).wellFormed = true := by decide

/-- The command words of the table, bit by bit: 1 ‖ 00000000 ‖ command byte (30_encoding.md R302, R304). -/
theorem test_decode_command_words :
    decode 0b10000000000000000 = some .nop ∧ decode 0b10000000000000001 = some .crcInit ∧
    decode 0b10000000000000010 = some .clearErr ∧ decode 0b10000000000100000 = some .descramble ∧
    decode 0b10000000000100001 = some .bitrev ∧ decode 0b10000000000110000 = some .decode ∧
    decode 0b10000000000110001 = some .decodeLegacy ∧ decode 0b10000000000110010 = some .decodeEnhanced ∧
    decode 0b10000000011110000 = some .softReset := by decide

theorem test_decode_crc_update_words :
    decode 0b10000000000010000 = some .crcUpdate0 ∧ decode 0b10000000000010001 = some .crcUpdate1 ∧
    decode 0b10000000000010010 = some .crcUpdate2 ∧ decode 0b10000000000010011 = some .crcUpdate3 ∧
    decode 0b10000000000010100 = some .crcUpdate4 ∧ decode 0b10000000000010101 = some .crcUpdate5 ∧
    decode 0b10000000000010110 = some .crcUpdate6 ∧ decode 0b10000000000010111 = some .crcUpdate7 ∧
    decode 0b10000000000011000 = some .crcUpdate8 := by decide

/-- Vectors CT-4, CT-7, ERR-6, ERR-9 and ERR-1d (95_test_vectors.md). -/
theorem test_decode_access_words :
    decode 0x00900 = some (.regRead 0x09) ∧ decode 0x0FF00 = some (.regRead 0xFF) ∧
    decode 0x10D06 = some (.regWrite 0x0D 0x06) ∧ decode 0x10019 = some (.regWrite 0x00 0x19) ∧
    decode 0x100FF = some (.regWrite 0x00 0xFF) := by decide

/-- A read word with DATA ≠ 0x00 spells no access (30_encoding.md R302). -/
theorem test_malformed_read_word : decode 0x00901 = none := by decide

theorem test_encode_words : encode .softReset = 0x100F0 ∧ encode (.regRead 0x86) = 0x08600 ∧
    encode (.regWrite 0x3F 0x77) = 0x13F77 := by decide

/-! ### The step -/

/-- A table row's word runs as the first instruction after reset. -/
theorem test_step_runs_placed_word :
    decodeTableWord 24 0x10D03 = some (.regWrite 0x0D 0x03) ∧
    (nextOf (step (State.reset.withFetchWord 24 0x10D03))).map (·.addrLen) = some .three := by decide

theorem test_step_refuses_malformed_read :
    refusalOf (step (State.reset.withFetchWord 24 0x00901)) = some .malformedReadWord := by decide

/-- A word placed past the program's end, with a reset due, is still the next one. -/
theorem test_step_runs_word_placed_past_the_end :
    (nextOf (step (State.withFetchWord { base with host := { base.host with pc := 3, powerOns := [2] } } 24
      0x10A5A))).map (fun t => (t.data, t.host.pc, t.host.powerOns)) = some (0x5A, 4, []) := by decide

/-- A due power-on reset comes before the access and leaves the host's index (70_reset_and_hazards.md R701, R702). -/
theorem test_step_power_on_reset :
    (nextOf (step (withProgram [0x10000] { withErr with host := { base.host with powerOns := [0] } }))).map
      (fun t => (t.status, t.errCode, t.capDraws, t.host.pc)) = some (0x00, 0x00, 2, 0) := by decide

/-! ### Instructions -/

/-- Vector CT-1. -/
theorem test_nop : nextOf (exec .nop withErr) = some withErr := rfl

/-- CRC-I of 95_test_vectors.md. -/
theorem test_crc_init : (nextOf (exec .crcInit { base with crcSeed := 0x0000 })).map (·.crcState) = some 0x0000 := by
  decide

/-- Vector CT-2. -/
theorem test_clear_err : (nextOf (exec .clearErr { withErr with status := 0x83 })).map
    (fun t => (t.status, t.errCode)) = some (0x03, 0x00) := by decide

/-- CRC-T of 95_test_vectors.md, the row of DATA = 01, all nine counts. -/
theorem test_crc_update : (List.range 9).map (fun n => ((nextOf (exec (crcUpdateOf (Fin.ofNat 9 n))
    { base with data := 0x01 })).map (·.crcState)).getD 0) =
    [0xB4D2, 0x7985, 0xF30A, 0xF635, 0xFC4B, 0xE8B7, 0xC14F, 0x92BF, 0x355F] := by decide +kernel

/-- CRC-P1 and CRC-P3. -/
theorem test_crc_update_polynomials :
    (nextOf (exec .crcUpdate8 { base with crcPoly := 0xFFFF })).map (·.crcState) = some 0x2DA5 ∧
    (nextOf (exec .crcUpdate3 { base with crcState := 0x1234, crcPoly := 0x0000, data := 0xAB })).map (·.crcState) =
      some 0xC9A0 := by decide

/-- DS-6 and DS-10. -/
theorem test_descramble :
    (nextOf (exec .descramble { base with data := 0xFF, offset := 3 })).map (·.result) = some 0xB9 ∧
    (nextOf (exec .descramble { base with data := 0xA5, offset := 38 })).map (·.result) = some 0xD4 := by decide

/-- BR-5 and BR-2. -/
theorem test_bitrev : (nextOf (exec .bitrev { base with data := 0x12 })).map (·.result) = some 0x48 ∧
    (nextOf (exec .bitrev { base with data := 0x01 })).map (·.result) = some 0x80 := by decide

/-- V-L1 under DECODE. -/
theorem test_decode_legacy_frame : (nextOf (exec .decode vL1)).map (fun t => (t.status, t.results.frameLen,
    t.results.addrOut.toList, t.results.payloadOut.toList.take 5)) =
    some (0x01, 7, [0x33, 0x22, 0x11, 0x00, 0x00], [0xF0, 0x0F, 0xA5, 0x5A, 0x00]) := by decide +kernel

/-- V-E10 under DECODE: the address length is corrected from 5 to 3. -/
theorem test_decode_enhanced_frame : (nextOf (exec .decode vE10)).map (fun t => (t.status, t.results.flags,
    t.results.resAddrLen, t.results.addrOut.toList, t.results.payloadOut.toList.take 5)) =
    some (0x02, 0x09, 3, [0x10, 0x20, 0x30, 0x00, 0x00], [0xCA, 0xFE, 0xBA, 0xBE, 0x00]) := by decide +kernel

/-- V-L2 under DECODE_LEGACY, scrambled, and V-E1, which it does not see. -/
theorem test_decode_legacy : (nextOf (exec .decodeLegacy vL2)).map (fun t => (t.status, t.results.flags,
      t.results.addrOut.toList, t.results.payloadOut.toList.take 4)) =
      some (0x01, 0x02, [0xE7, 0xE7, 0xE7, 0xE7, 0xE7], [0x01, 0x02, 0x03, 0x00]) ∧
    (nextOf (exec .decodeLegacy vE1)).map (fun t => (t.status, t.results)) = some (0x03, Results.cleared) := by
  decide +kernel

/-- V-E8 and V-E12 under DECODE_ENHANCED. -/
theorem test_decode_enhanced : (nextOf (exec .decodeEnhanced vE8)).map (fun t => (t.status, t.results.flags,
      t.results.payloadOut.toList.take 3)) = some (0x02, 0x1D, [0x80, 0x7F, 0x00]) ∧
    (nextOf (exec .decodeEnhanced vE12)).map (fun t => (t.status, t.results)) = some (0x04,
      { Results.cleared with flags := 0x01, frameLen := 3, resAddrLen := 5, pcfLen := 95 }) := by decide +kernel

/-- Vector CT-3. -/
theorem test_soft_reset :
    (nextOf (exec .softReset { vL1 with status := 0x81, crcPoly := 0x8005, capLen := 32 })).map
      (fun t => (t.status, t.crcPoly, t.addrLen, t.capLen, t.cap.toList.take 3)) =
    some (0x00, 0x1021, .five, 0, [0x11, 0x22, 0x33]) := by decide

/-- The reads of 95_test_vectors.md section 2.8, CT-5 to CT-7 and SCR_TABLE[38]. -/
theorem test_reg_read : [0x00, 0x03, 0x04, 0x05, 0x06, 0x07, 0x0D, 0x86, 0xFF].map (memRead (withCapture .five [])) =
    [0x00, 0x00, 0xD2, 0xB5, 0x21, 0x10, 0x05, 0x71, 0x00] := by decide

/-- CT-10: the low byte of CRC_STATE is kept, and ERR-6: ADDR_LEN keeps its value. -/
theorem test_reg_write :
    (nextOf (exec (.regWrite 0x05 0x12) { base with crcState := 0x0186 })).map (·.crcState) = some 0x1286 ∧
    (nextOf (exec (.regWrite 0x0D 0x06) base)).map (fun t => (t.addrLen, t.status, t.errCode)) =
      some (.three, 0x80, 0x02) := by decide

/-- ERR-3b, ERR-7b and ERR-9. -/
theorem test_reg_write_errors :
    (nextOf (exec (.regWrite 0x60 0x00) base)).map (·.errCode) = some 0x03 ∧
    (nextOf (exec (.regWrite 0x87 0x00) base)).map (·.errCode) = some 0x04 ∧
    (nextOf (exec (.regWrite 0x00 0x19) base)).map (·.errCode) = some 0x01 := by decide

/-! ### Witnesses: states and operands that meet a statement's hypotheses -/

theorem witness_DecodeOfEncodeIsTheInstruction :
    (Instr.regWrite 0x00 0x03).wellFormed = true ∧ (Instr.regWrite 0x0A 0x00).wellFormed = true := by decide

theorem witness_EncodeOfDecodeIsTheWord : decode 0x13F77 = some (.regWrite 0x3F 0x77) := by decide

theorem witness_BusWordFieldsSpellTheAccess :
    ((0x100F0 : BusWord).getLsbD 16 = true) ∧
    ((0x0FF00 : BusWord).getLsbD 16 = false ∧ (0x0FF00 : BusWord).extractLsb' 0 8 = 0) ∧
    ((0x000FF : BusWord).getLsbD 16 = false ∧ (0x000FF : BusWord).extractLsb' 0 8 ≠ 0) := by decide

/-- Both ends of every reserved range (30_encoding.md R307). -/
theorem witness_ReservedCommandByteRaisesReservedCmd :
    ∀ c ∈ ([0x03, 0x0F, 0x19, 0x1F, 0x22, 0x2F, 0x33, 0xEF, 0xF1, 0xFF] : List Byte), reservedCommand c = true := by
  decide

/-- For StepRunsTheDecodedInstruction and AccessAdvancesTheHostByOne: a read word. -/
theorem witness_step_of_a_read : let s := withProgram [0x00900] base
    duePowerOn s.host = none ∧ s.host.program[s.host.pc]? = some 0x00900 ∧ decode 0x00900 = some (.regRead 0x09) := by
  decide

/-- For StepRunsTheDecodedInstruction and AccessAdvancesTheHostByOne: a write word, a later reset pending. -/
theorem witness_step_of_a_write :
    let s := withProgram [0x10A5A] { base with host := { base.host with powerOns := [1] } }
    duePowerOn s.host = none ∧ s.host.program[s.host.pc]? = some 0x10A5A ∧
      decode 0x10A5A = some (.regWrite 0x0A 0x5A) := by decide

/-- For the second clause of StepCompletesUnlessTheWordIsMalformed: 93_implementation_defined.md I11. -/
theorem witness_StepCompletesUnlessTheWordIsMalformed : let s := withProgram [0x00901] base
    duePowerOn s.host = none ∧ s.host.program[s.host.pc]? = some 0x00901 ∧
      (0x00901 : BusWord).getLsbD 16 = false ∧ (0x00901 : BusWord).extractLsb' 0 8 ≠ 0 := by decide

theorem witness_StepIsIdleAfterTheProgram :
    duePowerOn base.host = none ∧ base.host.program.length ≤ base.host.pc := by decide

theorem witness_DuePowerOnResetsTheBlock :
    let s : State := { base with host := { base.host with powerOns := [0, 4] } }
    s.host.powerOns = 0 :: [4] ∧ 0 ≤ s.host.pc := by decide

/-- A legal state with ERR = 0, for ClearErrClearsTheErrorRecord and StepKeepsStateLegal. -/
theorem witness_legal_state : base.Legal ∧ statusErr base.status = false :=
  ⟨⟨⟨by decide, by decide, by decide⟩, ⟨by decide, by decide⟩, .inl ⟨by decide, rfl⟩⟩, by decide⟩

/-- The state V-E12 leaves is legal and its RES is ENH_LEN_ERR, for LengthErrorNeedsAShortFrame. -/
theorem witness_LengthErrorNeedsAShortFrame : isDecodeCommand .decode ∧
    exec .decode vE12 = .next (decodeCapture vE12) ∧ statusRes (decodeCapture vE12).status = 4 :=
  ⟨.inl rfl, rfl, by decide +kernel⟩

theorem witness_ClearErrClearsTheErrorRecord : exec .clearErr withErr = .next (clearErr withErr) ∧
    Instr.clearErr.wellFormed = true ∧ statusErr withErr.status = true ∧ statusErr (clearErr withErr).status = false :=
  ⟨rfl, by decide, by decide, by decide⟩

/-- CRC_POLY = 0, and both ends of the reserved counts. -/
theorem witness_CrcUpdateRunsTheShiftLoop : ({ base with crcPoly := 0x0000 } : State).crcPoly = 0 ∧
    (∀ c ∈ ([0x19, 0x1F] : List Byte), 0x19 ≤ c.toNat ∧ c.toNat ≤ 0x1F) := by decide

/-- DATA masked for n = 0, 2 and 8. -/
theorem witness_CrcUpdateOfMaskedByteIsBitwise :
    (∀ k, k < 8 - 0 → (0x00 : Byte).getLsbD k = false) ∧ (∀ k, k < 8 - 2 → (0xC0 : Byte).getLsbD k = false) ∧
    (∀ k, k < 8 - 8 → (0xFF : Byte).getLsbD k = false) := by decide

/-- Chunks of 0, 2 and 8 bits. -/
theorem witness_CrcStreamDoesNotDependOnTheSplit :
    ∀ c ∈ [[], [true, false], List.replicate 8 true], c.length ≤ 8 := by decide

/-- For every statement about decode commands: each of the three is one. -/
theorem witness_isDecodeCommand :
    isDecodeCommand .decode ∧ isDecodeCommand .decodeLegacy ∧ isDecodeCommand .decodeEnhanced :=
  ⟨.inl rfl, .inr (.inl rfl), .inr (.inr rfl)⟩

/-- Both ends of every reserved range, for RegReadReturnsTheRegisterByte and ReservedAddressReadsZeroAndRefusesWrites. -/
theorem witness_reserved_addresses :
    ∀ a ∈ ([0x03, 0x0F, 0x15, 0x17, 0x1D, 0x1F, 0x5B, 0x5F, 0x87, 0xFF] : List Byte), reservedAddress a = true := by
  decide

/-- Every address falls in exactly one class of 20_memory.md R204. -/
theorem test_address_classes_are_disjoint : ∀ a : Byte,
    ([a == 0x00, storingAddress a, a == 0x0B || a == 0x0D || a == 0x0E, readOnlyAddress a,
      reservedAddress a].filter id).length = 1 := by decide

/-- Both ends of the storing ranges and of the legal values, with another address to compare. -/
theorem witness_AcceptedWriteStoresOnlyItsByte :
    (∀ a ∈ ([0x04, 0x0A, 0x20, 0x3F] : List Byte), storingAddress a = true) ∧ inRange 0x0B 0 = true ∧
    inRange 0x0B 38 = true ∧ inRange 0x0B 39 = false ∧ inRange 0x0D 2 = false ∧ inRange 0x0D 3 = true ∧
    inRange 0x0D 5 = true ∧ inRange 0x0D 6 = false ∧ inRange 0x0E 0 = true ∧ inRange 0x0E 32 = true ∧
    inRange 0x0E 33 = false ∧ (0x05 : Byte) ≠ 0x04 := by decide

/-- Each error at the ends of its ranges (60_exceptions.md R602). -/
theorem witness_InterfaceErrorsAreRecordedExactly :
    (∀ v ∈ ([0x03, 0x0F, 0x19, 0x1F, 0x22, 0x2F, 0x33, 0xEF, 0xF1, 0xFF] : List Byte),
      errorRaised 0x00 v = some 0x01) ∧
    errorRaised 0x0B 39 = some 0x02 ∧ errorRaised 0x0D 2 = some 0x02 ∧ errorRaised 0x0D 6 = some 0x02 ∧
    errorRaised 0x0E 33 = some 0x02 ∧
    (∀ a ∈ ([0x01, 0x02, 0x0C, 0x10, 0x14, 0x18, 0x1C, 0x40, 0x5A, 0x60, 0x86] : List Byte),
      errorRaised a 0 = some 0x03) ∧
    (∀ a ∈ ([0x03, 0x0F, 0x15, 0x17, 0x1D, 0x1F, 0x5B, 0x5F, 0x87, 0xFF] : List Byte),
      errorRaised a 0 = some 0x04) := by decide

theorem witness_InterfaceErrorsAreRecordedExactly_no_error :
    (Instr.regWrite 0x0B 38).wellFormed = true ∧ raises (.regWrite 0x0B 38) = false ∧
    (Instr.regWrite 0x0B 38) ≠ .clearErr ∧ (Instr.regWrite 0x0B 38) ≠ .softReset ∧
    exec (.regWrite 0x0B 38) base = .next (memWrite 0x0B 38 base) := ⟨by decide, by decide, by decide, by decide, rfl⟩

theorem witness_ErrorWhileErrIsSetChangesNothing :
    errorRaised 0x01 0x00 = some 0x03 ∧ statusErr withErr.status = true := by decide

theorem witness_ErrorRecordDoesNotBlockAccesses :
    (Instr.decode ≠ .regRead 0x01 ∧ Instr.decode ≠ .regRead 0x02) ∧
    (Instr.regRead 0x00 ≠ .regRead 0x01 ∧ Instr.regRead 0x03 ≠ .regRead 0x02) := by decide

/-- For DECODE_LEGACY: DATA, CRC_STATE, CAP_LEN, the enhanced tables and SCRAMBLE[32] differ. -/
theorem witness_DecodeFootprint_legacy : sameDecodeOperands .decodeLegacy vL1
    { vL1 with data := 0x55, crcState := 0x1234, capLen := 7, tables := { t1 with
      scramble := t1.scramble.set 32 0x00, xorPlEnh := t1.xorScEnh, xorScEnh := t1.xorPlEnh } } :=
  ⟨rfl, rfl, rfl, rfl, by decide, fun _ => by decide, fun h => absurd rfl h⟩

/-- For DECODE_ENHANCED the legacy tables differ, and for DECODE the entries past its candidates' lengths. -/
theorem witness_DecodeFootprint_enhanced_and_both :
    sameDecodeOperands .decodeEnhanced vE1 { vE1 with tables := { t1 with xorPlLeg := t1.xorScLeg } } ∧
    sameDecodeOperands .decode vE1 { vE1 with tables := { t1 with
      xorPlLeg := (t1.xorPlLeg.set 0 0x0000).set 28 0x0000, xorScEnh := t1.xorScEnh.set 26 0x0000 } } :=
  ⟨⟨rfl, rfl, rfl, rfl, by decide, fun h => absurd rfl h, fun _ => by decide⟩,
    ⟨rfl, rfl, rfl, rfl, by decide, fun _ => by decide, fun _ => by decide⟩⟩

/-- V-L1 matches first at i = 6, plain. -/
theorem witness_FirstLegacyMatchIsRecovered_plain : firstLegacyMatch vL1 6 .plain := by decide +kernel

/-- V-L2 matches first at i = 7, scrambled. -/
theorem witness_FirstLegacyMatchIsRecovered_scrambled : firstLegacyMatch vL2 7 .scrambled := by decide +kernel

/-- V-L3 matches first at the last candidate, i = 29. -/
theorem witness_FirstLegacyMatchIsRecovered_last : firstLegacyMatch vL3 29 .plain := by decide +kernel

/-- V-E1 matches first at i = 7, plain, with the assumed address length. -/
theorem witness_FirstEnhancedMatchIsRecovered_plain :
    noLegacyBelow vE1 30 ∧ firstEnhancedMatch vE1 7 .plain ∧ resolvesTo vE1 .plain 7 5 := by decide +kernel

/-- V-E9 matches first at i = 7, scrambled. -/
theorem witness_FirstEnhancedMatchIsRecovered_scrambled :
    noLegacyBelow vE9 30 ∧ firstEnhancedMatch vE9 7 .scrambled ∧ resolvesTo vE9 .scrambled 7 3 := by decide +kernel

/-- V-E10 resolves to 3 while ADDR_LEN is 5. -/
theorem witness_FirstEnhancedMatchIsRecovered_corrected :
    noLegacyBelow vE10 30 ∧ firstEnhancedMatch vE10 7 .plain ∧ resolvesTo vE10 .plain 7 3 := by decide +kernel

/-- V-E12 matches at i = 3 and resolves to 5, which does not fit. -/
theorem witness_FirstEnhancedMatchIsRecovered_no_room :
    noLegacyBelow vE12 30 ∧ firstEnhancedMatch vE12 3 .plain ∧ resolvesTo vE12 .plain 3 5 ∧ 3 < 5 := by decide +kernel

/-- V-E11 matches at i = 4 and resolves to 4, the boundary a = i. -/
theorem witness_FirstEnhancedMatchIsRecovered_exact_fit :
    noLegacyBelow vE11 30 ∧ firstEnhancedMatch vE11 4 .plain ∧ resolvesTo vE11 .plain 4 4 := by decide +kernel

/-- V-E13: V-E12's capture with A = 3 resolves to 3 = i, with no consistent length. -/
theorem witness_FirstEnhancedMatchIsRecovered_uncorrected_fit : let s := { vE12 with addrLen := .three }
    noLegacyBelow s 30 ∧ firstEnhancedMatch s 3 .plain ∧ resolvesTo s .plain 3 3 ∧ ¬ pcfAgrees s .plain 3 3 := by
  decide +kernel

/-- V-N1. -/
theorem witness_NoCandidateGivesNoMatch : noLegacyBelow base 30 ∧ noEnhancedBelow base 29 := by decide +kernel

/-- V-L1, and V-E1, which only pass 2 sees. -/
theorem witness_NoCandidateGivesNoMatch_matches :
    ¬ noLegacyBelow vL1 30 ∧ noLegacyBelow vE1 30 ∧ ¬ noEnhancedBelow vE1 29 := by decide +kernel

/-- V-L1's frame. -/
theorem witness_LegacyFrameRoundTrip_plain :
    [0x33, 0x22, 0x11].length = lenA vL1 ∧
    holdsLegacyFrame vL1 .plain [0x33, 0x22, 0x11] [0xF0, 0x0F, 0xA5, 0x5A] ∧ noLegacyBelow vL1 6 := by decide +kernel

/-- V-L2's frame, scrambled. -/
theorem witness_LegacyFrameRoundTrip_scrambled :
    holdsLegacyFrame vL2 .scrambled (List.replicate 5 0xE7) [0x01, 0x02, 0x03] ∧ noLegacyBelow vL2 7 ∧
      ¬ legacyTest vL2 7 .plain := by decide +kernel

/-- V-L3's frame, the longest payload for A = 4. -/
theorem witness_LegacyFrameRoundTrip_longest :
    holdsLegacyFrame vL3 .plain [0xDE, 0xAD, 0xBE, 0xEF] ((List.range 26).map (BitVec.ofNat 8)) ∧
      noLegacyBelow vL3 29 := by decide +kernel

/-- V-E8's frame. -/
theorem witness_EnhancedFrameRoundTrip_plain :
    [0xA1, 0xA2, 0xA3, 0xA4, 0xA5].length = lenA vE8 ∧ noLegacyBelow vE8 30 ∧
    holdsEnhancedFrame vE8 .plain [0xA1, 0xA2, 0xA3, 0xA4, 0xA5] [0x80, 0x7F] 3 true ∧ noEnhancedBelow vE8 7 := by
  decide +kernel

/-- V-E9's frame, scrambled. -/
theorem witness_EnhancedFrameRoundTrip_scrambled :
    [0x10, 0x20, 0x30].length = lenA vE9 ∧ noLegacyBelow vE9 30 ∧
    holdsEnhancedFrame vE9 .scrambled [0x10, 0x20, 0x30] [0xCA, 0xFE, 0xBA, 0xBE] 2 true ∧ noEnhancedBelow vE9 7 ∧
      ¬ enhancedTest vE9 7 .plain := by decide +kernel

/-- Each operand register, and both ends of CAP, changed by a host write. -/
theorem witness_OperandsAreWrittenOnlyByTheHost :
    (memWrite 0x0A 0x5A base).data ≠ base.data ∧ (memWrite 0x0B 0x26 base).offset ≠ base.offset ∧
    (memWrite 0x06 0x05 base).crcPoly ≠ base.crcPoly ∧ (memWrite 0x07 0x80 base).crcPoly ≠ base.crcPoly ∧
    (memWrite 0x08 0x00 base).crcSeed ≠ base.crcSeed ∧ (memWrite 0x0D 0x04 base).addrLen ≠ base.addrLen ∧
    (memWrite 0x0E 0x20 base).capLen ≠ base.capLen ∧ (memWrite 0x20 0x11 base).cap ≠ base.cap ∧
    (memWrite 0x3F 0x77 base).cap ≠ base.cap ∧ exec (.regWrite 0x3F 0x77) base = .next (memWrite 0x3F 0x77 base) ∧
    (Instr.regWrite 0x3F 0x77).wellFormed = true :=
  ⟨by decide, by decide, by decide, by decide, by decide, by decide, by decide, by decide, by decide, rfl, by decide⟩

/-- CRC_STATE, RESULT, the results and RES, changed by their commands. -/
theorem witness_OutputsAreWrittenOnlyByTheirCommands :
    (crcUpdateState 8 base).crcState ≠ base.crcState ∧ exec .crcUpdate8 base = .next (crcUpdateState 8 base) ∧
    (descrambleData base).result ≠ base.result ∧ exec .descramble base = .next (descrambleData base) ∧
    (decodeCapture vL1).results ≠ vL1.results ∧ statusRes (decodeCapture vL1).status ≠ statusRes vL1.status ∧
    exec .decode vL1 = .next (decodeCapture vL1) ∧ Instr.decode.wellFormed = true :=
  ⟨by decide, rfl, by decide, rfl, by decide +kernel, by decide +kernel, rfl, by decide⟩

/-- A step that decodes and one that resets, for TablesNeverChange and StepKeepsStateLegal. -/
theorem witness_steps_answer_next_states :
    step (withProgram [0x10030] base) = .next (decodeCapture (advance (withProgram [0x10030] base))) ∧
    step { base with host := { base.host with powerOns := [0] } } = .next (powerOnReset base) := ⟨rfl, rfl⟩

end Sys2Proof.Tests
end

namespace Sys2Proof.Proofs

/-!
The rules the statements about the state rest on: what one accepted instruction does (`Effect`), what a decode command
can end with (`DecodeEnds`), and what one step does (`step_next_cases`).
-/

open Sys2Proof Sys2Proof.Machine Sys2Proof.Claims

section DecoderFacts

/-- Every command of the command map is well-formed (30_encoding.md R304). -/
theorem wellFormed_of_commandOf {c : Byte} {i : Instr} (h : commandOf c = some i) : i.wellFormed = true := by
  have hall : ∀ c : Byte, (commandOf c).all Instr.wellFormed = true := by decide
  simpa [h] using hall c

/-- No command byte spells a read. -/
theorem commandOf_ne_regRead (c a : Byte) : commandOf c ≠ some (.regRead a) := by
  unfold commandOf
  split <;> simp

/-- A write word spells a well-formed instruction: at CMD a reserved byte stays a REG_WRITE (30_encoding.md R307). -/
theorem decodeWrite_wellFormed (a v : Byte) : (decodeWrite a v).wellFormed = true := by
  unfold decodeWrite
  split
  · next ha =>
    cases hc : commandOf v with
    | some i => exact wellFormed_of_commandOf hc
    | none =>
      have hv := commandOf_isSome v
      rw [hc] at hv
      simp only [Option.getD_none, Instr.wellFormed, ← hv, Option.isSome_none, Bool.not_false, Bool.or_true]
  · next ha => simpa [Instr.wellFormed] using .inl ha

/-- A write word never spells a read (30_encoding.md R302). -/
theorem decodeWrite_ne_regRead (a v b : Byte) : decodeWrite a v ≠ .regRead b := by
  unfold decodeWrite
  split
  · cases hc : commandOf v with
    | some i => rintro rfl; exact commandOf_ne_regRead v b hc
    | none => simp
  · simp

/-- An accepted word is a write, or the read of its ADDR (30_encoding.md R302). -/
theorem decode_eq_some_cases {w : BusWord} {i : Instr} (h : decode w = some i) :
    (busIsWrite w = true ∧ i = decodeWrite (busAddr w) (busData w)) ∨
      (busIsWrite w = false ∧ i = .regRead (busAddr w)) := by
  unfold decode at h
  split at h
  · next hw => exact .inl ⟨hw, (Option.some.inj h).symm⟩
  · next hw =>
    split at h
    · exact .inr ⟨by simpa using hw, (Option.some.inj h).symm⟩
    · cases h

/-- The decoder answers well-formed instructions only. -/
theorem wellFormed_of_decode {w : BusWord} {i : Instr} (h : decode w = some i) : i.wellFormed = true := by
  obtain ⟨-, rfl⟩ | ⟨-, rfl⟩ := decode_eq_some_cases h
  · exact decodeWrite_wellFormed _ _
  · rfl

end DecoderFacts

section DecodeCommands

/-- What a decode command can end with: a match of pass 1, a match of pass 2 with room for its address or without, or no
match (42_frame_decoder.md R441, R453, R456, R457). -/
inductive DecodeEnds (s : State) : DecodeOutcome → Prop
  | legacy {m : FrameMatch} (h : legacyPass s = some m) : DecodeEnds s (legacyEnd s m)
  | enhanced {m : FrameMatch} (h : enhancedPass s = some m) (hfit : addrLenNat (resolvedAddrLen s m) ≤ m.frameLen) :
      DecodeEnds s ⟨.enhancedOk, enhancedResults s m (addrLenNat (resolvedAddrLen s m))⟩
  | lengthError {m : FrameMatch} (h : enhancedPass s = some m)
      (hshort : m.frameLen < addrLenNat (resolvedAddrLen s m)) :
      DecodeEnds s ⟨.enhLenErr, enhLenErrResults s m (addrLenNat (resolvedAddrLen s m))⟩
  | noMatch : DecodeEnds s noMatchEnd

theorem decodeEnds_enhancedEnd {s : State} {m : FrameMatch} (h : enhancedPass s = some m) :
    DecodeEnds s (enhancedEnd s m) := by
  by_cases hfit : addrLenNat (resolvedAddrLen s m) ≤ m.frameLen
  · simpa only [enhancedEnd, hfit, if_true] using DecodeEnds.enhanced h hfit
  · simpa only [enhancedEnd, hfit, if_false] using DecodeEnds.lengthError h (Nat.lt_of_not_le hfit)

theorem decodeEnds_decodeOutcome (s : State) : DecodeEnds s (decodeOutcome s) := by
  obtain ⟨m, hm, ho⟩ | ⟨m, -, hm, ho⟩ | ⟨-, -, ho⟩ := decodeOutcome_cases s <;> rw [ho]
  · exact .legacy hm
  · exact decodeEnds_enhancedEnd hm
  · exact .noMatch

theorem decodeEnds_legacyOutcome (s : State) : DecodeEnds s (legacyOutcome s) := by
  unfold legacyOutcome
  split
  · next hm => exact .legacy hm
  · exact .noMatch

theorem decodeEnds_enhancedOutcome (s : State) : DecodeEnds s (enhancedOutcome s) := by
  unfold enhancedOutcome
  split
  · next hm => exact decodeEnds_enhancedEnd hm
  · exact .noMatch

/-- A decode command completes and writes one of those outcomes (42_frame_decoder.md R458). -/
theorem exec_of_isDecodeCommand {c : Instr} (hc : isDecodeCommand c) (s : State) :
    ∃ o, exec c s = .next (writeOutcome s o) ∧ DecodeEnds s o := by
  obtain rfl | rfl | rfl := hc
  · exact ⟨_, rfl, decodeEnds_decodeOutcome s⟩
  · exact ⟨_, rfl, decodeEnds_legacyOutcome s⟩
  · exact ⟨_, rfl, decodeEnds_enhancedOutcome s⟩

/-- An output array that is filled below `k` holds nothing past it (10_state.md R126, R127). -/
theorem zeroFrom_ofFn {n k : Nat} (f : Fin n → Byte) :
    zeroFrom (Vector.ofFn fun j => if j.val < k then f j else 0x00) k := by
  intro j hj
  simp [Nat.not_lt.mpr hj]

/-- Nothing is left of a cleared output array. -/
theorem zeroFrom_replicate {n : Nat} (k : Nat) : zeroFrom (Vector.replicate n (0x00 : Byte)) k := by
  intro j _
  simp

/-- A length below 256 reads back from its register byte. -/
theorem toNat_lengthByte {n : Nat} (h : n < 256) : (BitVec.ofNat 8 n).toNat = n := by
  rw [BitVec.toNat_ofNat, Nat.mod_eq_of_lt h]

/-- A frame of at most 30 bytes with room for its address has lengths that fit (10_state.md R128). -/
theorem lengthsLegal_of_frame {r : Results} {L a : Nat} (hr : r.resAddrLen = BitVec.ofNat 8 a)
    (hp : r.payloadLen = BitVec.ofNat 8 (L - a)) (hf : r.frameLen = BitVec.ofNat 8 L) (ha : 3 ≤ a ∧ a ≤ 5)
    (haL : a ≤ L) (hL : L ≤ 30) : lengthsLegal r := by
  simp only [lengthsLegal, hr, hp, hf]
  rw [toNat_lengthByte (by omega), toNat_lengthByte (by omega), toNat_lengthByte (by omega)]
  omega

/-- A pass-1 match leaves results of LEGACY_OK (42_frame_decoder.md R447). -/
theorem legacyResults_legal {s : State} {m : FrameMatch} (h : legacyPass s = some m) :
    legacyResultsLegal (legacyResults s m) := by
  have ha := addrLenNat_bounds s.addrLen
  obtain ⟨hlo, hhi⟩ := legacyPass_bounds h
  have hres : (legacyResults s m).resAddrLen.toNat = addrLenNat s.addrLen := toNat_lengthByte (by omega)
  have hpay : (legacyResults s m).payloadLen.toNat = m.frameLen - addrLenNat s.addrLen := toNat_lengthByte (by omega)
  refine ⟨lengthsLegal_of_frame rfl rfl rfl ha (by omega) hhi, ⟨?_, ?_⟩, by omega, rfl, ?_, ?_, ?_⟩
  · rw [hres]; exact zeroFrom_ofFn _
  · rw [hpay]; exact zeroFrom_ofFn _
  · exact flagsEnh_flagsOf ..
  · exact flagsAck_flagsOf ..
  · exact flagsPid_flagsOf ..

/-- A pass-2 match with room for its address leaves results of ENHANCED_OK (42_frame_decoder.md R454). -/
theorem enhancedResults_legal {s : State} {m : FrameMatch} {a : AddrLen} (h : enhancedPass s = some m)
    (haL : addrLenNat a ≤ m.frameLen) : enhancedResultsLegal (enhancedResults s m (addrLenNat a)) := by
  have ha := addrLenNat_bounds a
  obtain ⟨-, hhi⟩ := enhancedPass_bounds h
  have hres : (enhancedResults s m (addrLenNat a)).resAddrLen.toNat = addrLenNat a := toNat_lengthByte (by omega)
  have hpay : (enhancedResults s m (addrLenNat a)).payloadLen.toNat = m.frameLen - addrLenNat a :=
    toNat_lengthByte (by omega)
  have hlen : (enhancedResults s m (addrLenNat a)).frameLen.toNat = m.frameLen := toNat_lengthByte (by omega)
  refine ⟨lengthsLegal_of_frame rfl rfl rfl ha haL (by omega), ⟨?_, ?_⟩, by omega, ?_⟩
  · rw [hres]; exact zeroFrom_ofFn _
  · rw [hpay]; exact zeroFrom_ofFn _
  · exact flagsEnh_flagsOf ..

/-- A pass-2 match with no room for its address leaves results of ENH_LEN_ERR (42_frame_decoder.md R453). -/
theorem enhLenErrResults_legal {s : State} {m : FrameMatch} {a : AddrLen} (h : enhancedPass s = some m)
    (haL : m.frameLen < addrLenNat a) : enhLenErrResultsLegal (enhLenErrResults s m (addrLenNat a)) := by
  have ha := addrLenNat_bounds a
  obtain ⟨hlo, -⟩ := enhancedPass_bounds h
  have hres : (enhLenErrResults s m (addrLenNat a)).resAddrLen.toNat = addrLenNat a := toNat_lengthByte (by omega)
  have hlen : (enhLenErrResults s m (addrLenNat a)).frameLen.toNat = m.frameLen := toNat_lengthByte (by omega)
  refine ⟨by omega, by omega, by omega, rfl, zeroFrom_replicate 0, zeroFrom_replicate 0, ?_, ?_, ?_⟩
  · exact flagsEnh_flagsOf ..
  · exact flagsAck_flagsOf ..
  · exact flagsPid_flagsOf ..

/-- Whatever a decode command ends with, its results agree with the STATUS.RES code it writes (10_state.md R114,
R128). -/
theorem DecodeEnds.resultsAgree {s : State} {o : DecodeOutcome} (h : DecodeEnds s o) :
    resultsAgree (resultCode o.res) o.results := by
  cases h with
  | legacy hm => exact .inr (.inl ⟨rfl, legacyResults_legal hm⟩)
  | enhanced hm hfit => exact .inr (.inr (.inl ⟨rfl, enhancedResults_legal hm hfit⟩))
  | lengthError hm hshort => exact .inr (.inr (.inr (.inr ⟨rfl, enhLenErrResults_legal hm hshort⟩)))
  | noMatch => exact .inr (.inr (.inr (.inl ⟨rfl, rfl⟩)))

/-- The 7-bit PCF length leaves PCF_LEN[7] at 0 (10_state.md R125). -/
theorem setWidth_pcfLen_reserved (p : BitVec 7) : (p.setWidth 8).getLsbD 7 = false := by
  simp

/-- Whatever a decode command ends with, FLAGS[7:5] and PCF_LEN[7] are 0 (10_state.md R121, R125). -/
theorem DecodeEnds.reservedBits {s : State} {o : DecodeOutcome} (h : DecodeEnds s o) :
    o.results.flags.extractLsb' 5 3 = 0 ∧ o.results.pcfLen.getLsbD 7 = false := by
  cases h with
  | legacy => exact ⟨flagsOf_reserved .., by simp [legacyEnd, legacyResults]⟩
  | enhanced => exact ⟨flagsOf_reserved .., setWidth_pcfLen_reserved _⟩
  | lengthError => exact ⟨flagsOf_reserved .., setWidth_pcfLen_reserved _⟩
  | noMatch => exact ⟨by decide, by decide⟩

end DecodeCommands

section Effects

/-- A byte that is no command raises RESERVED_CMD (30_encoding.md R307). -/
theorem runCommand_of_commandOf_none {c : Byte} (h : commandOf c = none) (s : State) :
    runCommand c s = raiseError .reservedCmd s := by
  unfold runCommand
  split
  case h_19 => rfl
  all_goals simp_all [commandOf]

/-- A byte that is no command raises RESERVED_CMD (60_exceptions.md R602). -/
theorem errorRaised_cmd {v : Byte} (h : commandOf v = none) : errorRaised 0x00 v = some (errorCode .reservedCmd) := by
  revert v; decide

/-- An illegal OFFSET raises ILLEGAL_VALUE (60_exceptions.md R602). -/
theorem errorRaised_offset {v : Byte} (h : offsetOf v = none) :
    errorRaised 0x0B v = some (errorCode .illegalValue) := by
  revert v; decide

/-- An illegal ADDR_LEN raises ILLEGAL_VALUE (60_exceptions.md R602). -/
theorem errorRaised_addrLen {v : Byte} (h : addrLenOf v = none) :
    errorRaised 0x0D v = some (errorCode .illegalValue) := by
  revert v; decide

/-- An illegal CAP_LEN raises ILLEGAL_VALUE (60_exceptions.md R602). -/
theorem errorRaised_capLen {v : Byte} (h : capLenOf v = none) :
    errorRaised 0x0E v = some (errorCode .illegalValue) := by
  revert v; decide

/-- A read-only address is neither CMD nor range-checked, so every byte raises WRITE_RO (60_exceptions.md R602). -/
theorem errorRaised_readOnly {a : Byte} (v : Byte) (h : readOnlyAddress a = true) :
    errorRaised a v = some (errorCode .writeRo) := by
  have hother : ∀ a : Byte, readOnlyAddress a = true →
      (a == 0x00) = false ∧ (a == 0x0B || a == 0x0D || a == 0x0E) = false := by decide
  obtain ⟨hcmd, hchecked⟩ := hother a h
  simp only [errorRaised, hcmd, hchecked, h, Bool.false_eq_true, if_false, if_true, errorCode]

/-- An address of no register raises RESERVED_ADDR for every byte (60_exceptions.md R602). -/
theorem errorRaised_reserved {a : Byte} (v : Byte) (h : regAt a = .reserved) :
    errorRaised a v = some (errorCode .reservedAddr) := by
  have hother : ∀ a : Byte, regAt a = .reserved →
      (a == 0x00) = false ∧ (a == 0x0B || a == 0x0D || a == 0x0E) = false ∧ readOnlyAddress a = false ∧
        reservedAddress a = true := by decide
  obtain ⟨hcmd, hchecked, hro, hres⟩ := hother a h
  simp only [errorRaised, hcmd, hchecked, hro, hres, Bool.false_eq_true, if_false, if_true, errorCode]

/-- What a well-formed instruction does to a state: one case per command, the read, the refused write with the error it
raises, and one case per register byte the host can write. -/
inductive Effect : Instr → State → State → Prop
  | nop (s) : Effect .nop s s
  | crcInit (s) : Effect .crcInit s (s.setCrcState s.crcSeed)
  | clearErr (s) : Effect .clearErr s (clearErrorRecord s)
  | crcUpdate (n : Fin 9) (s) :
      Effect (crcUpdateOf n) s (s.setCrcState (crcUpdate s.crcState s.data n s.crcPoly))
  | descramble (s) : Effect .descramble s (s.setResult (descrambleByte s.tables s.data s.offset))
  | bitrev (s) : Effect .bitrev s (s.setResult (bitReverse s.data))
  | decode {c : Instr} {s} {o : DecodeOutcome} (hc : isDecodeCommand c) (ho : DecodeEnds s o) :
      Effect c s (writeOutcome s o)
  | softReset (s) : Effect .softReset s (resetRegisters s)
  | regRead (a : Byte) (s) : Effect (.regRead a) s (returnToHost (memRead s a) s)
  | refuseWrite {a v : Byte} {e : ErrorKind} (s) (h : errorRaised a v = some (errorCode e)) :
      Effect (.regWrite a v) s (raiseError e s)
  | writeCrcStateLo (v : Byte) (s) : Effect (.regWrite 0x04 v) s (s.setCrcState (withLoByte s.crcState v))
  | writeCrcStateHi (v : Byte) (s) : Effect (.regWrite 0x05 v) s (s.setCrcState (withHiByte s.crcState v))
  | writeCrcPolyLo (v : Byte) (s) : Effect (.regWrite 0x06 v) s (s.setCrcPoly (withLoByte s.crcPoly v))
  | writeCrcPolyHi (v : Byte) (s) : Effect (.regWrite 0x07 v) s (s.setCrcPoly (withHiByte s.crcPoly v))
  | writeCrcSeedLo (v : Byte) (s) : Effect (.regWrite 0x08 v) s (s.setCrcSeed (withLoByte s.crcSeed v))
  | writeCrcSeedHi (v : Byte) (s) : Effect (.regWrite 0x09 v) s (s.setCrcSeed (withHiByte s.crcSeed v))
  | writeData (v : Byte) (s) : Effect (.regWrite 0x0A v) s (s.setData v)
  | writeOffset {v : Byte} {o : Fin 39} (s) (h : offsetOf v = some o) :
      Effect (.regWrite 0x0B v) s (s.setOffset o)
  | writeAddrLen {v : Byte} {a : AddrLen} (s) (h : addrLenOf v = some a) :
      Effect (.regWrite 0x0D v) s (s.setAddrLen a)
  | writeCapLen {v : Byte} {n : Fin 33} (s) (h : capLenOf v = some n) :
      Effect (.regWrite 0x0E v) s (s.setCapLen n)
  | writeCap (k : Fin 32) (v : Byte) (s) : Effect (.regWrite (BitVec.ofNat 8 (0x20 + k.val)) v) s (s.setCap k v)

/-- A range-checked write stores the legal value or is refused (20_memory.md R204 (c)). -/
theorem effect_storeChecked {α : Type} {legal : Option α} {store : α → State} {a v : Byte} {s : State}
    (hstore : ∀ x, legal = some x → Effect (.regWrite a v) s (store x))
    (hillegal : legal = none → errorRaised a v = some (errorCode .illegalValue)) :
    Effect (.regWrite a v) s (storeChecked legal store s) := by
  cases hl : legal with
  | some x => exact hstore x hl
  | none => exact .refuseWrite s (hillegal hl)

/-- The effect of a write at a register byte's own address (20_memory.md R204). -/
theorem effect_writeRegByte (r : RegByte) (v : Byte) (s : State) (hcmd : r = .cmd → commandOf v = none) :
    Effect (.regWrite (addressOf r) v) s (writeRegByte r v s) := by
  cases r with
  | cmd =>
    rw [writeRegByte, runCommand_of_commandOf_none (hcmd rfl)]
    exact .refuseWrite s (errorRaised_cmd (hcmd rfl))
  | crcStateLo => exact .writeCrcStateLo v s
  | crcStateHi => exact .writeCrcStateHi v s
  | crcPolyLo => exact .writeCrcPolyLo v s
  | crcPolyHi => exact .writeCrcPolyHi v s
  | crcSeedLo => exact .writeCrcSeedLo v s
  | crcSeedHi => exact .writeCrcSeedHi v s
  | data => exact .writeData v s
  | offset => exact effect_storeChecked (fun _ h => .writeOffset s h) errorRaised_offset
  | addrLen => exact effect_storeChecked (fun _ h => .writeAddrLen s h) errorRaised_addrLen
  | capLen => exact effect_storeChecked (fun _ h => .writeCapLen s h) errorRaised_capLen
  | cap k => exact .writeCap k v s
  | status | errCode | result | flags | frameLen | resAddrLen | payloadLen | pcfLen =>
    exact .refuseWrite s (errorRaised_readOnly v (by decide))
  | addrOut k | payloadOut k | scrTable k =>
    exact .refuseWrite s (errorRaised_readOnly v (by clear hcmd; revert k; decide))
  | reserved => exact .refuseWrite s (errorRaised_reserved v (by decide))

/-- A well-formed REG_WRITE at CMD holds no command byte (43_control.md R505). -/
theorem commandOf_none_of_wellFormed {v : Byte} (h : (Instr.regWrite 0x00 v).wellFormed = true) :
    commandOf v = none := by
  have hv : assignedCommands.contains v = false := by simpa [Instr.wellFormed] using h
  rwa [← commandOf_isSome, Option.isSome_eq_false_iff, Option.isNone_iff_eq_none] at hv

/-- The effect of a host write (20_memory.md R204). -/
theorem effect_memWrite {a v : Byte} (s : State) (hwf : (Instr.regWrite a v).wellFormed = true) :
    Effect (.regWrite a v) s (memWrite a v s) := by
  unfold memWrite
  obtain hr | ha := addressOf_regAt a
  · rw [hr]
    exact .refuseWrite s (errorRaised_reserved v hr)
  · have hcmd : regAt a = .cmd → commandOf v = none := by
      intro hr
      rw [hr] at ha
      subst ha
      exact commandOf_none_of_wellFormed hwf
    have h := effect_writeRegByte (regAt a) v s hcmd
    rwa [ha] at h

/-- Every well-formed instruction completes, with its effect. -/
theorem exec_effect (i : Instr) (s : State) (hwf : i.wellFormed = true) : ∃ t, exec i s = .next t ∧ Effect i s t := by
  cases i with
  | nop => exact ⟨_, rfl, .nop s⟩
  | crcInit => exact ⟨_, rfl, .crcInit s⟩
  | clearErr => exact ⟨_, rfl, .clearErr s⟩
  | crcUpdate0 => exact ⟨_, rfl, .crcUpdate 0 s⟩
  | crcUpdate1 => exact ⟨_, rfl, .crcUpdate 1 s⟩
  | crcUpdate2 => exact ⟨_, rfl, .crcUpdate 2 s⟩
  | crcUpdate3 => exact ⟨_, rfl, .crcUpdate 3 s⟩
  | crcUpdate4 => exact ⟨_, rfl, .crcUpdate 4 s⟩
  | crcUpdate5 => exact ⟨_, rfl, .crcUpdate 5 s⟩
  | crcUpdate6 => exact ⟨_, rfl, .crcUpdate 6 s⟩
  | crcUpdate7 => exact ⟨_, rfl, .crcUpdate 7 s⟩
  | crcUpdate8 => exact ⟨_, rfl, .crcUpdate 8 s⟩
  | descramble => exact ⟨_, rfl, .descramble s⟩
  | bitrev => exact ⟨_, rfl, .bitrev s⟩
  | decode => exact ⟨_, rfl, .decode (.inl rfl) (decodeEnds_decodeOutcome s)⟩
  | decodeLegacy => exact ⟨_, rfl, .decode (.inr (.inl rfl)) (decodeEnds_legacyOutcome s)⟩
  | decodeEnhanced => exact ⟨_, rfl, .decode (.inr (.inr rfl)) (decodeEnds_enhancedOutcome s)⟩
  | softReset => exact ⟨_, rfl, .softReset s⟩
  | regRead a => exact ⟨_, rfl, .regRead a s⟩
  | regWrite a v => exact ⟨_, rfl, effect_memWrite s hwf⟩

/-- The next state an instruction answers is its effect. -/
theorem effect_of_exec {i : Instr} {s t : State} (hwf : i.wellFormed = true) (h : exec i s = .next t) :
    Effect i s t := by
  obtain ⟨u, hu, heff⟩ := exec_effect i s hwf
  obtain rfl : u = t := by simpa [hu] using h
  exact heff

/-- No instruction changes the tables. -/
theorem Effect.tables_eq {i : Instr} {s t : State} (h : Effect i s t) : t.tables = s.tables := by
  cases h with
  | refuseWrite => exact raiseError_tables _ s
  | _ => rfl

/-- No instruction draws CAP. -/
theorem Effect.capDraws_eq {i : Instr} {s t : State} (h : Effect i s t) : t.capDraws = s.capDraws := by
  cases h with
  | refuseWrite => exact raiseError_capDraws _ s
  | _ => rfl

/-- Only a read reaches the host (43_control.md R504). -/
theorem Effect.host_eq_of_ne_regRead {i : Instr} {s t : State} (h : Effect i s t) (hi : ∀ a, i ≠ .regRead a) :
    t.host = s.host := by
  cases h with
  | refuseWrite => exact raiseError_host _ s
  | regRead a => exact absurd rfl (hi a)
  | _ => rfl

end Effects

section Steps

/-- With no reset due, a step runs the instruction the host's next word spells (10_state.md R102). -/
theorem step_eq_exec {s : State} {w : BusWord} {i : Instr} (hdue : duePowerOn s.host = none)
    (hw : s.host.program[s.host.pc]? = some w) (hi : decode w = some i) : step s = exec i (advance s) := by
  simp only [step, hdue, runAccess, fetchWord, hw, runWord, hi]

/-- A step that answers a next state performs a due power-on reset, or finds the host's program ended, or performs one
access (20_memory.md R210, R212, 70_reset_and_hazards.md R701). -/
theorem step_next_cases {s t : State} (h : step s = .next t) :
    (∃ rest, duePowerOn s.host = some rest ∧ t = powerOnReset (s.setHost { s.host with powerOns := rest })) ∨
      (duePowerOn s.host = none ∧ fetchWord s.host = none ∧ t = s) ∨
      ∃ w i, duePowerOn s.host = none ∧ fetchWord s.host = some w ∧ decode w = some i ∧ Effect i (advance s) t := by
  unfold step at h
  split at h
  · next rest hdue => exact .inl ⟨rest, hdue, (Host.Outcome.next.inj h).symm⟩
  · next hdue =>
    unfold runAccess at h
    split at h
    · next w hw =>
      unfold runWord at h
      split at h
      · next i hi => exact .inr (.inr ⟨w, i, hdue, hw, hi, effect_of_exec (wellFormed_of_decode hi) h⟩)
      · cases h
    · next hw => exact .inr (.inl ⟨hdue, hw, (Host.Outcome.next.inj h).symm⟩)

/-- The host's index is no part of what a read returns. -/
theorem memRead_advance (s : State) (a : Byte) : memRead (advance s) a = memRead s a := by
  unfold memRead
  cases regAt a <;> rfl

end Steps

section LegalStates

/-- A state is legal by its STATUS, its ERRCODE and its result registers alone. -/
theorem legal_congr {s t : State} (hst : t.status = s.status) (hec : t.errCode = s.errCode)
    (hr : t.results = s.results) (hs : s.Legal) : t.Legal := by
  unfold State.Legal reservedBitsZero errorRecordLegal at *
  rwa [hst, hec, hr]

/-- A state whose status and result registers hold their reset values is legal (10_state.md R160). -/
theorem legal_of_reset_values {s : State} (hst : s.status = 0x00) (hec : s.errCode = 0x00)
    (hr : s.results = Results.cleared) : s.Legal := by
  unfold State.Legal reservedBitsZero errorRecordLegal resultsAgree
  rw [hst, hec, hr]
  exact ⟨by decide, by decide, .inl ⟨by decide, rfl⟩⟩

/-- Setting ERR leaves STATUS[6:3] alone (10_state.md R113). -/
theorem statusSetErr_reserved (b : Byte) : (statusSetErr b).extractLsb' 3 4 = b.extractLsb' 3 4 := by
  revert b; decide

/-- Clearing ERR leaves STATUS[6:3] alone (10_state.md R113). -/
theorem statusClearErr_reserved (b : Byte) : (statusClearErr b).extractLsb' 3 4 = b.extractLsb' 3 4 := by
  revert b; decide

/-- Writing RES leaves STATUS[6:3] alone (10_state.md R113). -/
theorem statusWithRes_reserved (b : Byte) (c : BitVec 3) :
    (statusWithRes b c).extractLsb' 3 4 = b.extractLsb' 3 4 := by
  revert b c; decide

/-- The code of an error is assigned and is not NONE (10_state.md R115). -/
theorem errorCode_assigned (e : ErrorKind) : (errorCode e).toNat ≤ 4 ∧ errorCode e ≠ 0x00 := by
  cases e <;> decide

/-- Recording an error keeps a legal state legal: the code kept or stored is assigned and not NONE (60_exceptions.md
R603). -/
theorem raiseError_legal (e : ErrorKind) {s : State} (hs : s.Legal) : (raiseError e s).Legal := by
  obtain ⟨⟨hst, hbits⟩, ⟨hle, hiff⟩, hag⟩ := hs
  obtain ⟨hcodele, hcodene⟩ := errorCode_assigned e
  refine ⟨⟨?_, ?_⟩, ⟨?_, ?_⟩, ?_⟩
  · rw [raiseError_status, statusSetErr_reserved, hst]
  · simpa using hbits
  · rw [raiseError_errCode]
    split
    · exact hle
    · exact hcodele
  · rw [raiseError_status, raiseError_errCode, statusErr_statusSetErr]
    cases herr : statusErr s.status with
    | true => simpa [herr] using hiff
    | false => simpa using hcodene
  · simpa using hag

/-- Clearing the error record keeps a legal state legal (43_control.md R502). -/
theorem clearErrorRecord_legal {s : State} (hs : s.Legal) : (clearErrorRecord s).Legal := by
  obtain ⟨⟨hst, hbits⟩, -, hag⟩ := hs
  refine ⟨⟨?_, hbits⟩, ?_, ?_⟩
  · rw [clearErrorRecord_status, statusClearErr_reserved, hst]
  · simp [errorRecordLegal]
  · simpa using hag

/-- The end of a decode command keeps a legal state legal, whatever the results were before (10_state.md R128). -/
theorem writeOutcome_legal {s : State} {o : DecodeOutcome} (ho : DecodeEnds s o) (hs : s.Legal) :
    (writeOutcome s o).Legal := by
  obtain ⟨⟨hst, -⟩, herr, -⟩ := hs
  refine ⟨⟨?_, ho.reservedBits⟩, ?_, ?_⟩
  · simpa [writeOutcome, statusWithRes_reserved] using hst
  · simpa [errorRecordLegal, writeOutcome] using herr
  · simpa [writeOutcome] using ho.resultsAgree

/-- An instruction keeps a legal state legal: only an error, CLEAR_ERR, SOFT_RESET and the decode commands write what
legality speaks of. -/
theorem Effect.legal {i : Instr} {s t : State} (h : Effect i s t) (hs : s.Legal) : t.Legal := by
  cases h with
  | refuseWrite => exact raiseError_legal _ hs
  | clearErr => exact clearErrorRecord_legal hs
  | softReset => exact legal_of_reset_values rfl rfl rfl
  | decode _ ho => exact writeOutcome_legal ho hs
  | _ => exact legal_congr rfl rfl rfl hs

/-- Settles O43: the reset values are legal. -/
theorem resetIsLegal : Obligations.ResetIsLegal := legal_of_reset_values rfl rfl rfl

/-- Settles O44, by the cases of a step: a reset gives the reset values, an idle step nothing, an access an `Effect`. -/
theorem stepKeepsStateLegal : Obligations.StepKeepsStateLegal := by
  intro s t hs hstep
  obtain ⟨rest, -, rfl⟩ | ⟨-, -, rfl⟩ | ⟨w, i, -, -, -, heff⟩ := step_next_cases hstep
  · exact legal_of_reset_values rfl rfl rfl
  · exact hs
  · exact heff.legal (legal_congr rfl rfl rfl hs)

end LegalStates

section StateStatements

/-- Settles O10: a write word's instruction leaves the host alone, and a read word's adds the byte at ADDR. -/
theorem accessAdvancesTheHostByOne : Obligations.AccessAdvancesTheHostByOne := by
  intro s w i hdue hw hi
  rw [step_eq_exec hdue hw hi]
  obtain ⟨t, ht, heff⟩ := exec_effect i (advance s) (wellFormed_of_decode hi)
  have htables : t.tables = s.tables := heff.tables_eq
  have hdraws : t.capDraws = s.capDraws := heff.capDraws_eq
  refine ⟨t, ht, ?_⟩
  obtain ⟨hwr, rfl⟩ | ⟨hwr, rfl⟩ := decode_eq_some_cases hi
  · have hhost : t.host = { s.host with pc := s.host.pc + 1 } :=
      heff.host_eq_of_ne_regRead (decodeWrite_ne_regRead _ _)
    rw [hhost]
    refine ⟨rfl, rfl, rfl, htables, hdraws, ?_⟩
    rw [show w.getLsbD 16 = true from hwr]
    exact (List.append_nil _).symm
  · obtain rfl : returnToHost (memRead (advance s) (busAddr w)) (advance s) = t := Host.Outcome.next.inj ht
    refine ⟨rfl, rfl, rfl, htables, hdraws, ?_⟩
    rw [show w.getLsbD 16 = false from hwr, memRead_advance]
    rfl

/-- Settles O33: the results agree with the code the command writes, and that code is not NONE. -/
theorem decodedLengthsFitTheFrame : Obligations.DecodedLengthsFitTheFrame := by
  intro c s hc
  obtain ⟨o, hexec, ho⟩ := exec_of_isDecodeCommand hc s
  refine ⟨_, hexec, ?_⟩
  have hres : statusRes (writeOutcome s o).status = resultCode o.res := statusRes_statusWithRes ..
  have hx : (writeOutcome s o).results = o.results := rfl
  rw [hres, hx]
  obtain ⟨hnone, -⟩ | ⟨hcode, hlen, -⟩ | ⟨hcode, hlen, -⟩ | ⟨hcode, hr⟩ | ⟨hcode, -, -, -, hpay, -⟩ :=
    ho.resultsAgree
  · exact absurd hnone (by cases o.res <;> decide)
  · exact .inr ⟨.inl hcode, hlen⟩
  · exact .inr ⟨.inr hcode, hlen⟩
  · exact .inl ⟨.inl hcode, by rw [hr]; rfl⟩
  · exact .inl ⟨.inr hcode, hpay⟩

/-- Settles O40: in each effect, the operand registers it can change are those of its own address. -/
theorem operandsAreWrittenOnlyByTheHost : Obligations.OperandsAreWrittenOnlyByTheHost := by
  intro i s t hwf hexec
  cases effect_of_exec hwf hexec with
  | decode => simp [writeOutcome]
  | writeCap k v => exact ⟨by simp, by simp, by simp, by simp, by simp, by simp, fun _ => ⟨k, v, rfl⟩⟩
  | _ => simp

/-- Settles O41: in each effect, the output registers it can change are those of its own command. -/
theorem outputsAreWrittenOnlyByTheirCommands : Obligations.OutputsAreWrittenOnlyByTheirCommands := by
  intro i s t hwf hexec
  cases effect_of_exec hwf hexec with
  | decode hc => simp [writeOutcome, hc]
  | _ => simp

/-- Settles O42, by the cases of a step. -/
theorem tablesNeverChange : Obligations.TablesNeverChange := by
  intro s t hstep
  obtain ⟨rest, -, rfl⟩ | ⟨-, -, rfl⟩ | ⟨w, i, -, -, -, heff⟩ := step_next_cases hstep
  · rfl
  · rfl
  · exact heff.tables_eq

/-- Settles O6. -/
theorem stepRunsTheDecodedInstruction : Obligations.StepRunsTheDecodedInstruction :=
  fun _ _ _ hdue hw hi => step_eq_exec hdue hw hi

/-- Settles O11: every field of the reset state, and the bytes the host reads of them. -/
theorem resetHoldsTheStatedValues : Obligations.ResetHoldsTheStatedValues := by
  unfold Obligations.ResetHoldsTheStatedValues
  refine ⟨rfl, rfl, rfl, rfl, rfl, rfl, rfl, rfl, rfl, rfl, rfl, rfl, rfl, rfl, rfl, by decide, by decide, ?_⟩
  decide

end StateStatements

end Sys2Proof.Proofs

namespace Sys2Proof.Proofs

/-!
The host's reads and writes at the address map (20_memory.md R203 to R210): what an accepted write stores is said once,
over all register bytes (`StoresByte`, `Effect.storesByte`).
-/

open Sys2Proof Sys2Proof.Machine Sys2Proof.Claims

section Reads

/-- A reserved address reaches no register (20_memory.md R205). -/
theorem regAt_of_reservedAddress : ∀ a : Byte, reservedAddress a = true → regAt a = .reserved := by decide

theorem memRead_addrOut (s : State) (k : Fin 5) :
    memRead s (BitVec.ofNat 8 (0x18 + k.val)) = s.results.addrOut[k] := by
  rw [memRead, regAt_addrOut]
  rfl

theorem memRead_cap (s : State) (k : Fin 32) : memRead s (BitVec.ofNat 8 (0x20 + k.val)) = s.cap[k] := by
  rw [memRead, regAt_cap]
  rfl

theorem memRead_payloadOut (s : State) (k : Fin 27) :
    memRead s (BitVec.ofNat 8 (0x40 + k.val)) = s.results.payloadOut[k] := by
  rw [memRead, regAt_payloadOut]
  rfl

theorem memRead_scrTable (s : State) (k : Fin 39) :
    memRead s (BitVec.ofNat 8 (0x60 + k.val)) = s.tables.scramble[k] := by
  rw [memRead, regAt_scrTable]
  rfl

theorem memRead_of_reservedAddress (s : State) {a : Byte} (h : reservedAddress a = true) : memRead s a = 0x00 := by
  rw [memRead, regAt_of_reservedAddress a h]
  rfl

/-- The range-checked registers read as their numbers (10_state.md R105). -/
theorem toNat_memRead_offset (s : State) : (memRead s 0x0B).toNat = s.offset.val :=
  toNat_lengthByte (by omega)

theorem toNat_memRead_addrLen (s : State) : (memRead s 0x0D).toNat = addrLenNat s.addrLen :=
  toNat_lengthByte (by have := addrLenNat_bounds s.addrLen; omega)

theorem toNat_memRead_capLen (s : State) : (memRead s 0x0E).toNat = s.capLen.val :=
  toNat_lengthByte (by omega)

end Reads

section AcceptedWrites

/-- No CRC_UPDATE is a REG_WRITE. -/
theorem crcUpdateOf_ne_regWrite (n : Fin 9) (a v : Byte) : crcUpdateOf n ≠ .regWrite a v := by
  unfold crcUpdateOf
  split <;> simp

/-- From `s` to `t` the register byte `r` takes the value `v`, and every other register byte keeps its own (20_memory.md
R206, R209). -/
def StoresByte (r : RegByte) (v : Byte) (s t : State) : Prop :=
  ∀ q, readRegByte t q = if q = r then v else readRegByte s q

/-- A read of CAP after a write to one of its bytes (10_state.md R131). -/
theorem storesByte_setCap (k : Fin 32) (v : Byte) (s : State) : StoresByte (.cap k) v s (s.setCap k v) := by
  intro q
  cases q with
  | cap j => simp [readRegByte, Vector.getElem_set, Fin.ext_iff, eq_comm]
  | _ => rfl

/-- A write that raises no error stores its byte in the register byte of its address, and nowhere else (20_memory.md
R204 (b), (c)). -/
theorem Effect.storesByte {i : Instr} {s t : State} (h : Effect i s t) {a v : Byte} (hi : i = .regWrite a v)
    (hok : errorRaised a v = none) : StoresByte (regAt a) v s t := by
  cases h with
  | refuseWrite _ herr => cases hi; simp [herr] at hok
  | crcUpdate n => exact absurd hi (crcUpdateOf_ne_regWrite n a v)
  | decode hc => obtain rfl | rfl | rfl := hc <;> cases hi
  | writeCap k => cases hi; rw [regAt_cap]; exact storesByte_setCap k v s
  | writeOffset _ ho => cases hi; intro q; cases q <;> simp [readRegByte, regAt, offsetOf_eq_some ho]
  | writeAddrLen _ ha => cases hi; intro q; cases q <;> simp [readRegByte, regAt, addrLenOf_eq_some ha]
  | writeCapLen _ hn => cases hi; intro q; cases q <;> simp [readRegByte, regAt, capLenOf_eq_some hn]
  | writeData | writeCrcStateLo | writeCrcStateHi | writeCrcPolyLo | writeCrcPolyHi | writeCrcSeedLo
  | writeCrcSeedHi => cases hi; intro q; cases q <;> simp [readRegByte, regAt]
  | _ => cases hi

/-- A write to a storing address, or of a legal value to a range-checked register, raises no error (60_exceptions.md
R602). -/
theorem errorRaised_of_accepted {a v : Byte} (h : (storingAddress a || inRange a v) = true) :
    errorRaised a v = none := by
  obtain hs | hr := Bool.or_eq_true_iff.mp h
  · have hother : ∀ a : Byte, storingAddress a = true →
        (a == 0x00) = false ∧ (a == 0x0B || a == 0x0D || a == 0x0E) = false ∧ readOnlyAddress a = false ∧
          reservedAddress a = false := by decide
    obtain ⟨hcmd, hchecked, hro, hres⟩ := hother a hs
    simp only [errorRaised, hcmd, hchecked, hro, hres, Bool.false_eq_true, if_false]
  · have haddr : a = 0x0B ∨ a = 0x0D ∨ a = 0x0E := by
      simp only [inRange, Bool.or_eq_true, Bool.and_eq_true, beq_iff_eq] at hr
      tauto
    obtain rfl | rfl | rfl := haddr <;> exact if_pos hr

/-- Such a write is not at CMD, so a word spells it. -/
theorem wellFormed_of_accepted {a v : Byte} (h : (storingAddress a || inRange a v) = true) :
    (Instr.regWrite a v).wellFormed = true := by
  have ha : a ≠ 0x00 := by
    rintro rfl
    cases h
  simpa [Instr.wellFormed] using .inl ha

end AcceptedWrites

section MemoryStatements

/-- Settles O24: the read of each address of the map. -/
theorem regReadReturnsTheRegisterByte : Obligations.RegReadReturnsTheRegisterByte :=
  ⟨fun _ _ => rfl, fun s =>
    ⟨rfl, fun _ => memRead_of_reservedAddress s, rfl, rfl, rfl, rfl, rfl, rfl, rfl, rfl, rfl,
      toNat_memRead_offset s, rfl, toNat_memRead_addrLen s, toNat_memRead_capLen s, rfl, rfl, rfl, rfl, rfl,
      memRead_addrOut s, memRead_cap s, memRead_payloadOut s, memRead_scrTable s⟩⟩

/-- Settles O25: the write stores its byte in the register byte of its address, which no other address reaches. -/
theorem acceptedWriteStoresOnlyItsByte : Obligations.AcceptedWriteStoresOnlyItsByte := by
  intro a v s h
  have hok := errorRaised_of_accepted h
  have heff := effect_memWrite s (wellFormed_of_accepted h)
  have hstores := heff.storesByte rfl hok
  have hreg : regAt a ≠ .reserved := fun hres => by simp [errorRaised_reserved v hres] at hok
  refine ⟨memWrite a v s, rfl, ?_, fun b hb => ?_, heff.tables_eq, heff.host_eq_of_ne_regRead (by simp),
    heff.capDraws_eq⟩
  · exact (hstores _).trans (if_pos rfl)
  · exact (hstores _).trans (if_neg fun hab => hb (regAt_injective hab.symm hreg).symm)

/-- Settles O7: past its end the program has no word to fetch. -/
theorem stepIsIdleAfterTheProgram : Obligations.StepIsIdleAfterTheProgram := by
  intro s hdue hend
  have hfetch : fetchWord s.host = none := List.getElem?_eq_none hend
  simp only [step, hdue, runAccess, hfetch]

end MemoryStatements

end Sys2Proof.Proofs

namespace Sys2Proof.Proofs

/-!
The bus words against the instructions they spell (30_encoding.md): the three cases of the decoder, the two directions of
the encoding, and the write of any byte at any address as `memWrite`.
-/

open Sys2Proof Sys2Proof.Machine Sys2Proof.Claims

section BusWords

/-- A word with W = 1 is a write of its DATA at its ADDR (30_encoding.md R302). -/
theorem decode_of_write {w : BusWord} (hw : busIsWrite w = true) :
    decode w = some (decodeWrite (busAddr w) (busData w)) := if_pos hw

/-- A word with W = 0 and DATA = 0x00 is a read of its ADDR (30_encoding.md R302). -/
theorem decode_of_read {w : BusWord} (hw : busIsWrite w = false) (hd : busData w = 0x00) :
    decode w = some (.regRead (busAddr w)) := by
  simp [decode, hw, hd]

/-- A word with W = 0 and any other DATA spells nothing (30_encoding.md R302). -/
theorem decode_of_malformed_read {w : BusWord} (hw : busIsWrite w = false) (hd : busData w ≠ 0x00) :
    decode w = none :=
  (if_neg (by simp [hw])).trans (if_neg hd)

theorem decode_busWrite (a v : Byte) : decode (busWrite a v) = some (decodeWrite a v) := by
  rw [decode_of_write (busIsWrite_busWrite a v), busAddr_busWrite, busData_busWrite]

theorem decode_busRead (a : Byte) : decode (busRead a) = some (.regRead a) := by
  rw [decode_of_read (busIsWrite_busRead a) (busData_busRead a), busAddr_busRead]

/-- A write word is the word of its ADDR and DATA: it has no other bits (30_encoding.md R302). -/
theorem busWrite_of_fields {w : BusWord} (hw : busIsWrite w = true) : busWrite (busAddr w) (busData w) = w := by
  have h := bus_fields_eq w
  rw [hw] at h
  exact h.symm

/-- A read word whose DATA is 0x00 is the word of its ADDR (30_encoding.md R302). -/
theorem busRead_of_fields {w : BusWord} (hw : busIsWrite w = false) (hd : busData w = 0x00) :
    busRead (busAddr w) = w := by
  have h := bus_fields_eq w
  rw [hw, hd] at h
  exact h.symm

/-- The write of a byte to CMD, as the number of its word (30_encoding.md R304). -/
theorem ofNat_eq_busWrite_cmd : ∀ c : Byte, BitVec.ofNat 17 (0x10000 + c.toNat) = busWrite 0x00 c := by decide

end BusWords

section WriteWords

/-- A write word spells a command, at CMD and by the command map, or the REG_WRITE of its fields (30_encoding.md R304,
R307). -/
theorem decodeWrite_cases (a v : Byte) :
    (a = 0x00 ∧ commandOf v = some (decodeWrite a v)) ∨ decodeWrite a v = .regWrite a v := by
  unfold decodeWrite
  split
  · next ha =>
    cases hc : commandOf v with
    | some i => exact .inl ⟨ha, rfl⟩
    | none => exact .inr rfl
  · exact .inr rfl

/-- At CMD a byte of the command map spells its command (30_encoding.md R304). -/
theorem decodeWrite_of_commandOf {c : Byte} {i : Instr} (h : commandOf c = some i) : decodeWrite 0x00 c = i := by
  simp [decodeWrite, h]

/-- A byte outside the command map spells a REG_WRITE at CMD too (30_encoding.md R307). -/
theorem decodeWrite_of_commandOf_none {v : Byte} (h : commandOf v = none) (a : Byte) :
    decodeWrite a v = .regWrite a v := by
  obtain ⟨-, hc⟩ | hreg := decodeWrite_cases a v
  · cases h.symm.trans hc
  · exact hreg

/-- A well-formed REG_WRITE is what its write word spells (43_control.md R505). -/
theorem decodeWrite_of_wellFormed {a v : Byte} (h : (Instr.regWrite a v).wellFormed = true) :
    decodeWrite a v = .regWrite a v := by
  obtain ⟨rfl, hc⟩ | hreg := decodeWrite_cases a v
  · cases (commandOf_none_of_wellFormed h).symm.trans hc
  · exact hreg

/-- The encoder gives a write word's instruction the word it came from: at CMD the command map decides (30_encoding.md
R304). -/
theorem encode_decodeWrite (a v : Byte) : encode (decodeWrite a v) = busWrite a v := by
  obtain ⟨rfl, hc⟩ | hreg := decodeWrite_cases a v
  · exact encode_of_commandOf hc
  · rw [hreg]
    rfl

/-- A command does what the write of its byte to CMD does (20_memory.md R204 (a), 30_encoding.md R304). -/
theorem exec_of_commandOf {c : Byte} {i : Instr} (h : commandOf c = some i) (s : State) :
    exec i s = .next (runCommand c s) := by
  unfold commandOf at h
  unfold runCommand
  generalize c.toNat = n at h
  split at h <;> cases h <;> rfl

/-- The instruction of any write word does what MemWrite does (20_memory.md R204). -/
theorem exec_decodeWrite (a v : Byte) (s : State) : exec (decodeWrite a v) s = .next (memWrite a v s) := by
  obtain ⟨rfl, hc⟩ | hreg := decodeWrite_cases a v
  · exact exec_of_commandOf hc s
  · rw [hreg]
    rfl

end WriteWords

section RecordedErrors

/-- An error changes the error record alone, and its code only when ERR was clear (60_exceptions.md R603, R604). -/
theorem raiseError_eq_recorded (e : ErrorKind) (s : State) : raiseError e s = recorded (errorCode e) s := by
  unfold raiseError recorded statusErr
  split <;> rfl

/-- The reserved bytes are those outside the command map (30_encoding.md R304, R307). -/
theorem commandOf_of_reservedCommand : ∀ c : Byte, reservedCommand c = true → commandOf c = none := by decide

end RecordedErrors

section EncodingStatements

/-- Settles O1: a read and a well-formed REG_WRITE by their fields, a command by its byte in the command map. -/
theorem decodeOfEncodeIsTheInstruction : Obligations.DecodeOfEncodeIsTheInstruction := by
  intro i hwf
  cases i with
  | regRead a => exact decode_busRead a
  | regWrite a v => exact (decode_busWrite a v).trans (congrArg some (decodeWrite_of_wellFormed hwf))
  | _ => exact (decode_busWrite 0x00 _).trans (congrArg some (decodeWrite_of_commandOf rfl))

/-- Settles O2: an accepted word is a write or a read with DATA 0x00, and in both its fields are all its bits. -/
theorem encodeOfDecodeIsTheWord : Obligations.EncodeOfDecodeIsTheWord := by
  intro w i hi
  refine ⟨wellFormed_of_decode hi, ?_⟩
  cases hw : busIsWrite w with
  | true =>
    obtain rfl : decodeWrite (busAddr w) (busData w) = i := Option.some.inj ((decode_of_write hw).symm.trans hi)
    exact (encode_decodeWrite _ _).trans (busWrite_of_fields hw)
  | false =>
    by_cases hd : busData w = 0x00
    · obtain rfl : Instr.regRead (busAddr w) = i := Option.some.inj ((decode_of_read hw hd).symm.trans hi)
      exact busRead_of_fields hw hd
    · cases (decode_of_malformed_read hw hd).symm.trans hi

/-- Settles O4, by the three cases of the decoder. -/
theorem busWordFieldsSpellTheAccess : Obligations.BusWordFieldsSpellTheAccess :=
  ⟨fun _ hw => ⟨_, decode_of_write hw, exec_decodeWrite _ _⟩,
    fun _ hw hd => ⟨_, decode_of_read hw hd, fun _ => rfl⟩,
    fun _ hw hd => decode_of_malformed_read hw hd⟩

/-- Settles O5: a reserved byte is outside the command map, so its word stays a REG_WRITE at CMD. -/
theorem reservedCommandByteRaisesReservedCmd : Obligations.ReservedCommandByteRaisesReservedCmd := by
  intro c s hc
  have hnone := commandOf_of_reservedCommand c hc
  constructor
  · rw [ofNat_eq_busWrite_cmd, decode_busWrite, decodeWrite_of_commandOf_none hnone]
  · calc exec (.regWrite 0x00 c) s = .next (runCommand c s) := rfl
      _ = .next (raiseError .reservedCmd s) := by rw [runCommand_of_commandOf_none hnone]
      _ = .next (recorded 0x01 s) := by rw [raiseError_eq_recorded]; rfl

/-- Settles O3: the decoder evaluated at each row's match word. -/
theorem tableWordsDecodeToTheirRows : Obligations.TableWordsDecodeToTheirRows := by
  unfold Obligations.TableWordsDecodeToTheirRows
  decide

/-- Settles O29: a reserved address reaches no register byte. -/
theorem reservedAddressReadsZeroAndRefusesWrites : Obligations.ReservedAddressReadsZeroAndRefusesWrites := by
  intro a v s ha
  constructor
  · calc exec (.regRead a) s = .next (returnToHost (memRead s a) s) := rfl
      _ = .next (returnToHost 0x00 s) := by rw [memRead_of_reservedAddress s ha]
  · calc exec (.regWrite a v) s = .next (writeRegByte (regAt a) v s) := rfl
      _ = .next (raiseError .reservedAddr s) := by rw [regAt_of_reservedAddress a ha]; rfl
      _ = .next (recorded 0x04 s) := by rw [raiseError_eq_recorded]; rfl

end EncodingStatements

end Sys2Proof.Proofs

namespace Sys2Proof.Proofs

/-!
The laws of the bit reversal and of the descrambler (40_tables_descrambler.md R403 to R405), on bytes and through their
commands.
-/

open Sys2Proof Sys2Proof.Machine Sys2Proof.Claims

section ByteLaws

/-- R405: bit reversal is an involution. -/
@[simp] theorem bitReverse_bitReverse (b : Byte) : bitReverse (bitReverse b) = b :=
  BitVec.reverse_reverse_eq

/-- R405: bit j of both sides is bit 7 - j of `b` xor bit 7 - j of `m`. -/
theorem bitReverse_xor (b m : Byte) : bitReverse (b ^^^ m) = bitReverse b ^^^ bitReverse m := by
  refine BitVec.eq_of_getLsbD_eq fun j hj => ?_
  simp only [BitVec.getLsbD_xor, getLsbD_bitReverse _ j hj]

/-- R405: the table entry cancels, so descrambling at one offset is an involution. -/
@[simp] theorem descrambleByte_descrambleByte (t : Tables) (b : Byte) (k : Fin 39) :
    descrambleByte t (descrambleByte t b k) k = b :=
  xor_cancel_right ..

/-- The bytes that are their own reversal (40_tables_descrambler.md R404). -/
theorem bitReverse_eq_self_iff : ∀ b : Byte, bitReverse b = b ↔
    b ∈ ([0x00, 0x18, 0x24, 0x3C, 0x42, 0x5A, 0x66, 0x7E, 0x81, 0x99, 0xA5, 0xBD, 0xC3, 0xDB,
      0xE7, 0xFF] : List Byte) := by decide

end ByteLaws

section FeedBack

/-- BITREV after a write to DATA reverses the byte written (40_tables_descrambler.md R404). -/
theorem runAll_writeData_bitrev (v : Byte) (s : State) :
    runAll [.regWrite 0x0A v, .bitrev] s = some ((s.setData v).setResult (bitReverse v)) := rfl

/-- DESCRAMBLE after a write to DATA descrambles the byte written at the OFFSET that stands (40_tables_descrambler.md
R403). -/
theorem runAll_writeData_descramble (v : Byte) (s : State) :
    runAll [.regWrite 0x0A v, .descramble] s =
      some ((s.setData v).setResult (descrambleByte s.tables v s.offset)) := rfl

end FeedBack

section DescramblerStatements

/-- Settles O23: the second command's RESULT is the byte function applied twice to DATA. -/
theorem reversalAndDescramblingLaws : Obligations.ReversalAndDescramblingLaws := by
  refine ⟨fun s => ?_, fun s => ?_, bitReverse_xor⟩
  · exact ⟨bitReverseData s, _, rfl, runAll_writeData_bitrev _ _, bitReverse_bitReverse s.data⟩
  · exact ⟨descrambleData s, _, rfl, runAll_writeData_descramble _ _,
      descrambleByte_descrambleByte s.tables s.data s.offset⟩

/-- Settles O21: DESCRAMBLE's effect as a state update. -/
theorem descrambleXorsTheTableEntry : Obligations.DescrambleXorsTheTableEntry :=
  ⟨decode_busWrite 0x00 0x20, fun s => congrArg Host.Outcome.next (descrambleData_eq s)⟩

/-- Settles O22: RESULT is the reversal of DATA, whose bits and fixed points the byte laws give. -/
theorem bitrevReversesTheBits : Obligations.BitrevReversesTheBits := by
  refine ⟨decode_busWrite 0x00 0x21, fun s => ⟨bitReverse s.data, ?effect, ?bits, ?palindromes, ?ends⟩⟩
  case effect => exact congrArg Host.Outcome.next (bitReverseData_eq s)
  case bits => exact getLsbD_bitReverse s.data
  case palindromes => exact bitReverse_eq_self_iff s.data
  case ends => constructor <;> (intro h; rw [h]; decide)

end DescramblerStatements

end Sys2Proof.Proofs

namespace Sys2Proof.Proofs

/-!
The CRC engine (41_crc_engine.md). One law carries the section: n iterations over a byte are `crc_bit` over its top n
bits, xor the byte's other bits shifted up (`crcUpdate_eq_bits`). The masked, the unmasked and the streaming law of R422
are read off it.
-/

open Sys2Proof Sys2Proof.Machine Sys2Proof.Claims

section Iterations

/-- An iteration, with the XOR of the polynomial as a term (41_crc_engine.md R421). -/
theorem crcShift_eq (poly s : Word16) : crcShift poly s = (s <<< 1) ^^^ (if s.msb then poly else 0) := by
  rw [BitVec.msb_eq_getLsbD_last, crcShift]
  split <;> simp

/-- The loop ends with one iteration. -/
theorem crcShifts_succ_last (poly s : Word16) (n : Nat) :
    crcShifts poly (n + 1) s = crcShift poly (crcShifts poly n s) :=
  crcShifts_add poly s n 1

/-- CRC_UPDATE.(n+1) is CRC_UPDATE.n and one more iteration. -/
theorem crcUpdate_succ (s : Word16) (b : Byte) (n : Nat) (poly : Word16) :
    crcUpdate s b (n + 1) poly = crcShift poly (crcUpdate s b n poly) :=
  crcShifts_succ_last poly _ n

/-- The primitive is the loop of 41_crc_engine.md R421. -/
theorem crcUpdate_eq_crcLoop (s : Word16) (b : Byte) (n : Nat) (poly : Word16) :
    crcUpdate s b n poly = crcLoop s b n poly := by
  induction n with
  | zero => rfl
  | succ n ih =>
    rw [crcUpdate_succ, ih, crcShift_eq, crcLoop, crcLoop, List.range_succ, List.foldl_append, List.foldl_cons,
      List.foldl_nil]

end Iterations

section Bits

theorem streamBits_length (b : Byte) : (streamBits b).length = 8 := by
  simp [streamBits]

theorem getElem_streamBits (b : Byte) (k : Nat) (hk : k < (streamBits b).length) :
    (streamBits b)[k] = b.getLsbD (7 - k) := by
  simp [streamBits]

/-- A byte in bits 15:8 shifts like the byte itself: its bit 7 leaves the word. -/
theorem byteOnTop_shiftLeft (b : Byte) : (b.setWidth 16 <<< 8) <<< 1 = (b <<< 1).setWidth 16 <<< 8 := by
  bv_omega

/-- One iteration over a byte in bits 15:8 consumes bit 7 of the byte and leaves the others one place higher
(41_crc_engine.md R422). -/
theorem crcShift_xor_byte (poly s : Word16) (b : Byte) :
    crcShift poly (s ^^^ (b.setWidth 16 <<< 8)) = crcBit poly s b.msb ^^^ ((b <<< 1).setWidth 16 <<< 8) := by
  have hmsb : (b.setWidth 16 <<< 8).msb = b.msb := by simp [BitVec.msb_eq_getLsbD_last]
  rw [crcShift_eq, crcBit, BitVec.msb_xor, hmsb, BitVec.shiftLeft_xor_distrib, byteOnTop_shiftLeft]
  ac_rfl

/-- Each iteration consumes one stream bit, and the bits not yet consumed stand at the top of the state
(41_crc_engine.md R422). -/
theorem crcUpdate_eq_bits (s : Word16) (b : Byte) {n : Nat} (hn : n ≤ 8) (poly : Word16) :
    crcUpdate s b n poly =
      ((streamBits b).take n).foldl (crcBit poly) s ^^^ ((b <<< n).setWidth 16 <<< 8) := by
  induction n with
  | zero => simp [crcUpdate]
  | succ n ih =>
    have hlen : n < (streamBits b).length := by rw [streamBits_length]; omega
    have hbit : (b <<< n).msb = (streamBits b)[n] := by
      rw [getElem_streamBits, BitVec.msb_eq_getLsbD_last, BitVec.getLsbD_shiftLeft]
      simp [show ¬ 7 < n by omega]
    rw [crcUpdate_succ, ih (by omega), crcShift_xor_byte, hbit, ← BitVec.shiftLeft_add,
      List.take_succ_eq_append_getElem hlen, List.foldl_append, List.foldl_cons, List.foldl_nil]

/-- A byte whose low 8 - n bits are 0 is shifted out by n places. -/
theorem shiftLeft_of_masked {b : Byte} {n : Nat} (h : ∀ k, k < 8 - n → b.getLsbD k = false) : b <<< n = 0 := by
  refine BitVec.eq_of_getLsbD_eq fun i hi => ?_
  simp only [BitVec.getLsbD_shiftLeft, hi]
  by_cases hin : i < n
  · simp [hin]
  · simp [h (i - n) (by omega)]

/-- 41_crc_engine.md R422 (a). -/
theorem crcUpdate_of_masked (s : Word16) {b : Byte} {n : Nat} (hn : n ≤ 8)
    (h : ∀ k, k < 8 - n → b.getLsbD k = false) (poly : Word16) :
    crcUpdate s b n poly = ((streamBits b).take n).foldl (crcBit poly) s := by
  rw [crcUpdate_eq_bits s b hn, shiftLeft_of_masked h]
  simp

end Bits

section UnconsumedBits

/-- The byte with its low 8 - n bits cleared, b_hi of 41_crc_engine.md R422 (b), bit by bit. -/
theorem getLsbD_highBits (b : Byte) (n : Nat) {k : Nat} (hk : k < 8) :
    (b >>> (8 - n) <<< (8 - n)).getLsbD k = (decide (8 - n ≤ k) && b.getLsbD k) := by
  by_cases h : k < 8 - n
  · simp [h, Nat.not_le.mpr h]
  · simp [h, hk, Nat.not_lt.mp h, Nat.add_sub_of_le (Nat.not_lt.mp h)]

/-- Clearing the low 8 - n bits keeps the top n stream bits. -/
theorem take_streamBits_highBits (b : Byte) {n : Nat} (hn : n ≤ 8) :
    (streamBits (b >>> (8 - n) <<< (8 - n))).take n = (streamBits b).take n := by
  refine List.ext_getElem (by simp [streamBits_length]) fun k hk _ => ?_
  have hkn : k < n := by simp [streamBits_length] at hk; omega
  rw [List.getElem_take, List.getElem_take, getElem_streamBits, getElem_streamBits,
    getLsbD_highBits b n (by omega), decide_eq_true (by omega), Bool.true_and]

/-- What n shifts leave of a byte are its low 8 - n bits, b_lo of 41_crc_engine.md R422 (b): none of them leaves the
byte. -/
theorem setWidth_shiftLeft_lowBits (b : Byte) (n : Nat) :
    (b <<< n).setWidth 16 = (b &&& BitVec.ofNat 8 (2 ^ (8 - n) - 1)).setWidth 16 <<< n := by
  refine BitVec.eq_of_getLsbD_eq fun i hi => ?_
  simp only [BitVec.getLsbD_shiftLeft, BitVec.getLsbD_setWidth, BitVec.getLsbD_and, BitVec.getLsbD_ofNat,
    Nat.testBit_two_pow_sub_one]
  obtain hlow | ⟨j, rfl⟩ := (Nat.lt_or_ge i n).imp_right Nat.exists_eq_add_of_le
  · simp [hlow]
  · by_cases hj : n + j < 8
    · simp [hj, hi, show j < 8 - n by omega, show j < 8 by omega, show j < 16 by omega]
    · simp [hj, show ¬ j < 8 - n by omega]

/-- 41_crc_engine.md R422 (b). -/
theorem crcUpdate_split (s : Word16) (b : Byte) {n : Nat} (hn : n ≤ 8) (poly : Word16) :
    crcUpdate s b n poly = crcUpdate s (b >>> (8 - n) <<< (8 - n)) n poly ^^^
      ((b &&& BitVec.ofNat 8 (2 ^ (8 - n) - 1)).setWidth 16 <<< (8 + n)) := by
  have hmasked : ∀ k, k < 8 - n → (b >>> (8 - n) <<< (8 - n)).getLsbD k = false := fun k hk => by simp [hk]
  rw [crcUpdate_of_masked s hn hmasked, take_streamBits_highBits b hn, crcUpdate_eq_bits s b hn,
    setWidth_shiftLeft_lowBits, ← BitVec.shiftLeft_add, Nat.add_comm]

end UnconsumedBits

section Chunks

/-- The number whose binary digits are given high bit first has those digits. -/
theorem testBit_foldl_digits (f : Nat → Bool) {m k : Nat} (hk : k < m) :
    ((List.range m).foldl (fun n j => 2 * n + (f j).toNat) 0).testBit (m - 1 - k) = f k := by
  induction m with
  | zero => omega
  | succ m ih =>
    rw [List.range_succ, List.foldl_append, List.foldl_cons, List.foldl_nil, Nat.add_sub_cancel]
    obtain hlt | rfl := Nat.lt_succ_iff_lt_or_eq.mp hk
    · rw [← Nat.bit_val, show m - k = (m - 1 - k) + 1 by omega, Nat.testBit_bit_succ, ih hlt]
    · rw [← Nat.bit_val, Nat.sub_self, Nat.testBit_bit_zero]

/-- Bit 7 - k of a left-aligned chunk is its k-th stream bit, 0 past its end (41_crc_engine.md R422 (c)). -/
theorem getLsbD_leftAligned (chunk : List Bool) {k : Nat} (hk : k < 8) :
    (leftAligned chunk).getLsbD (7 - k) = chunk.getD k false := by
  rw [leftAligned, BitVec.getLsbD_ofNat, testBit_foldl_digits (fun k => chunk.getD k false) hk,
    decide_eq_true (by omega), Bool.true_and]

/-- A left-aligned chunk has zeros below its bits. -/
theorem leftAligned_masked (chunk : List Bool) {k : Nat} (hk : k < 8 - chunk.length) :
    (leftAligned chunk).getLsbD k = false := by
  have h := getLsbD_leftAligned chunk (k := 7 - k) (by omega)
  rw [List.getD_eq_default _ _ (by omega)] at h
  rwa [show 7 - (7 - k) = k by omega] at h

/-- The top stream bits of a left-aligned chunk are the chunk. -/
theorem take_streamBits_leftAligned {chunk : List Bool} (h : chunk.length ≤ 8) :
    (streamBits (leftAligned chunk)).take chunk.length = chunk := by
  refine List.ext_getElem (by simp [streamBits_length, h]) fun k _ hk => ?_
  rw [List.getElem_take, getElem_streamBits, getLsbD_leftAligned chunk (by omega), List.getD_eq_getElem _ _ hk]

/-- An update by a left-aligned chunk consumes the chunk's bits (41_crc_engine.md R422 (c)). -/
theorem crcUpdate_leftAligned (s : Word16) {chunk : List Bool} (h : chunk.length ≤ 8) (poly : Word16) :
    crcUpdate s (leftAligned chunk) chunk.length poly = chunk.foldl (crcBit poly) s := by
  rw [crcUpdate_of_masked s h (fun _ => leftAligned_masked chunk), take_streamBits_leftAligned h]

end Chunks

section Commands

/-- CRC_UPDATE.n completes with the update by n (41_crc_engine.md R424). -/
theorem exec_crcUpdateOf (n : Fin 9) (s : State) : exec (crcUpdateOf n) s = .next (crcUpdateState n.val s) := by
  unfold crcUpdateOf
  split <;> rfl

/-- A list of instructions goes on from the state its first one answers. -/
theorem runAll_cons {i : Instr} {s t : State} (h : exec i s = .next t) (is : List Instr) :
    runAll (i :: is) s = runAll is t := by
  rw [runAll, h]

/-- A chunk is consumed by its two instructions (41_crc_engine.md R422 (c)). -/
theorem runAll_feedChunk {chunk : List Bool} (h : chunk.length ≤ 8) (s : State) (is : List Instr) :
    runAll (feedChunk chunk ++ is) s =
      runAll is ((s.setData (leftAligned chunk)).setCrcState (chunk.foldl (crcBit s.crcPoly) s.crcState)) := by
  have hcount : (Fin.ofNat 9 chunk.length).val = chunk.length := Nat.mod_eq_of_lt (by omega)
  have hwrite : exec (.regWrite 0x0A (leftAligned chunk)) s = .next (s.setData (leftAligned chunk)) := rfl
  rw [feedChunk, List.cons_append, List.cons_append, List.nil_append, runAll_cons hwrite,
    runAll_cons (exec_crcUpdateOf _ _), hcount, crcUpdateState, State.setData_data, State.setData_crcState,
    State.setData_crcPoly, crcUpdate_leftAligned _ h]

/-- The candidate search runs over CAP with CRC_POLY and does not read CRC_STATE (42_frame_decoder.md R458). -/
@[simp] theorem searchCandidates_setCrcState (s : State) (v : Word16) (test : Word16 → Nat → Option Hypothesis)
    (crc : Word16) (is : List Nat) :
    searchCandidates (s.setCrcState v) test crc is = searchCandidates s test crc is := by
  induction is generalizing crc with
  | nil => rfl
  | cons i rest ih =>
    unfold searchCandidates
    rw [ih]
    rfl

@[simp] theorem legacyPass_setCrcState (s : State) (v : Word16) : legacyPass (s.setCrcState v) = legacyPass s := by
  rw [legacyPass, searchCandidates_setCrcState]
  rfl

@[simp] theorem enhancedPass_setCrcState (s : State) (v : Word16) :
    enhancedPass (s.setCrcState v) = enhancedPass s := by
  rw [enhancedPass, searchCandidates_setCrcState]
  rfl

@[simp] theorem legacyOutcome_setCrcState (s : State) (v : Word16) :
    legacyOutcome (s.setCrcState v) = legacyOutcome s := by
  rw [legacyOutcome, legacyPass_setCrcState]
  rfl

@[simp] theorem enhancedOutcome_setCrcState (s : State) (v : Word16) :
    enhancedOutcome (s.setCrcState v) = enhancedOutcome s := by
  rw [enhancedOutcome, enhancedPass_setCrcState]
  rfl

@[simp] theorem decodeOutcome_setCrcState (s : State) (v : Word16) :
    decodeOutcome (s.setCrcState v) = decodeOutcome s := by
  rw [decodeOutcome, legacyPass_setCrcState, enhancedOutcome_setCrcState]
  rfl

/-- A decode command reads no CRC_STATE: its outcome is the same in every CRC_STATE (42_frame_decoder.md R458). -/
theorem exec_decodeCommand_setCrcState {c : Instr} (hc : isDecodeCommand c) (s : State) :
    ∃ o, exec c s = .next (writeOutcome s o) ∧
      ∀ v, exec c (s.setCrcState v) = .next (writeOutcome (s.setCrcState v) o) := by
  obtain rfl | rfl | rfl := hc
  · exact ⟨decodeOutcome s, rfl, fun v => by rw [← decodeOutcome_setCrcState s v]; rfl⟩
  · exact ⟨legacyOutcome s, rfl, fun v => by rw [← legacyOutcome_setCrcState s v]; rfl⟩
  · exact ⟨enhancedOutcome s, rfl, fun v => by rw [← enhancedOutcome_setCrcState s v]; rfl⟩

end Commands

section CrcStatements

/-- Settles O16: the loop, its value at polynomial 0 and at n = 0, and the reserved bytes above the last count. -/
theorem crcUpdateRunsTheShiftLoop : Obligations.CrcUpdateRunsTheShiftLoop := by
  obtain ⟨-, -, -, hwords, -⟩ := tableWordsDecodeToTheirRows
  refine ⟨hwords, fun n s => ?loop, fun n s hpoly => ?polyZero, exec_crcUpdateOf 0, fun c s hlo hhi => ?reserved⟩
  case loop => rw [exec_crcUpdateOf, crcUpdateState_eq, crcUpdate_eq_crcLoop]
  case polyZero => rw [exec_crcUpdateOf, crcUpdateState_eq, hpoly, crcUpdate, crcShifts_poly_zero]
  case reserved =>
    have hc : reservedCommand c = true := by simp [reservedCommand]; omega
    exact (reservedCommandByteRaisesReservedCmd c s hc).2

/-- Settles O17, by the masked law of the primitive. -/
theorem crcUpdateOfMaskedByteIsBitwise : Obligations.CrcUpdateOfMaskedByteIsBitwise := by
  intro n s hmasked
  rw [exec_crcUpdateOf, crcUpdateState_eq, crcUpdate_of_masked _ (by omega) hmasked]

/-- Settles O18, by the unmasked law of the primitive. -/
theorem crcUpdateKeepsUnconsumedBits : Obligations.CrcUpdateKeepsUnconsumedBits := by
  intro n s
  refine ⟨_, exec_crcUpdateOf n _, ?_⟩
  rw [exec_crcUpdateOf, crcUpdateState_eq, crcUpdate_split _ _ (by omega)]
  rfl

/-- Settles O19, by induction on the chunks: each consumes its bits and keeps CRC_POLY and CRC_SEED. -/
theorem crcStreamDoesNotDependOnTheSplit : Obligations.CrcStreamDoesNotDependOnTheSplit := by
  intro chunks
  induction chunks with
  | nil => exact fun s _ => ⟨s, rfl, rfl, rfl, rfl⟩
  | cons chunk rest ih =>
    intro s h
    rw [List.forall_mem_cons] at h
    obtain ⟨hchunk, hrest⟩ := h
    rw [List.flatMap_cons, runAll_feedChunk hchunk, List.flatten_cons, List.foldl_append]
    exact ih _ hrest

/-- Settles O20: the outcome does not depend on CRC_STATE, and the update on nothing the outcome is written to. -/
theorem decodeAndCrcUpdateCommute : Obligations.DecodeAndCrcUpdateCommute := by
  intro c n s hc
  obtain ⟨o, hdecode, hresumed⟩ := exec_decodeCommand_setCrcState hc s
  refine ⟨crcUpdateState n.val (writeOutcome s o), ?decodeFirst, ?updateFirst⟩
  case decodeFirst =>
    rw [runAll_cons hdecode, runAll_cons (exec_crcUpdateOf n _)]
    rfl
  case updateFirst =>
    rw [runAll_cons (exec_crcUpdateOf n s), crcUpdateState, runAll_cons (hresumed _)]
    rfl

/-- Settles O15: the word of CRC_INIT and its effect as a state update. -/
theorem crcInitLoadsTheSeed : Obligations.CrcInitLoadsTheSeed :=
  ⟨decode_busWrite 0x00 0x01, fun s => congrArg Host.Outcome.next (crcInit_eq s)⟩

end CrcStatements

end Sys2Proof.Proofs

namespace Sys2Proof.Proofs

/-!
The frame decoder (42_frame_decoder.md). What a pass finds is read off the candidate tests of the statements
(`legacyPass_of_firstLegacyMatch`, `legacyPass_eq_none_iff` and their enhanced counterparts), and what a command leaves
is read off what its passes find. The round trips show that a frame's own candidate passes its test and that the view
at that candidate is the frame.
-/

open Sys2Proof Sys2Proof.Machine Sys2Proof.Claims

section DecoderReadings

/-- A lookup by number in a vector is the lookup in its list. -/
theorem getD_getElem?_eq_toList {α : Type} {n : Nat} (v : Vector α n) (k : Nat) (d : α) :
    (v[k]?).getD d = v.toList.getD k d := by
  rw [List.getD_eq_getElem?_getD, Vector.getElem?_toList]

@[simp] theorem capByte_eq_rawAt (s : State) (k : Nat) : capByte s k = rawAt s k :=
  getD_getElem?_eq_toList ..

@[simp] theorem viewByte_eq_unmaskedAt (s : State) (h : Hypothesis) (k : Nat) : viewByte s h k = unmaskedAt s h k := by
  rw [viewByte, unmaskedAt, capByte_eq_rawAt]
  cases h with
  | plain => rfl
  | scrambled => rw [maskByte, maskAt, getD_getElem?_eq_toList]

theorem correction_legacyTable (s : State) (h : Hypothesis) (L : Nat) :
    correction (legacyTable s.tables h) L = legacyCorrection s h L := by
  cases h <;> exact getD_getElem?_eq_toList ..

theorem correction_enhancedTable (s : State) (h : Hypothesis) (L : Nat) :
    correction (enhancedTable s.tables h) L = enhancedCorrection s h L := by
  cases h <;> exact getD_getElem?_eq_toList ..

/-- The running CRC takes CAP[n] next (42_frame_decoder.md R444, R448). -/
theorem prefixCrc_succ (s : State) {n : Nat} (hn : n < 32) :
    prefixCrc s (n + 1) = crcOverCap s (prefixCrc s n) n := by
  have hlen : n < s.cap.toList.length := by simpa using hn
  rw [prefixCrc, List.take_succ_eq_append_getElem hlen, List.foldl_append, List.foldl_cons, List.foldl_nil,
    crcOverCap, capByte_eq_rawAt, rawAt, List.getD_eq_getElem _ _ hlen, prefixCrc]

/-- Pass 1 starts from the CRC over the address bytes (42_frame_decoder.md R444). -/
theorem legacyStart_eq_prefixCrc (s : State) : legacyStart s = prefixCrc s (addrLenNat s.addrLen) := by
  have hfold (n : Nat) (hn : n ≤ 32) : (List.range n).foldl (crcOverCap s) s.crcSeed = prefixCrc s n := by
    induction n with
    | zero => rfl
    | succ n ih =>
      rw [List.range_succ, List.foldl_append, ih (by omega), prefixCrc_succ s (by omega), List.foldl_cons,
        List.foldl_nil]
  have ha := addrLenNat_bounds s.addrLen
  exact hfold _ (by omega)

theorem hiByte_eq_iff (r : Word16) (b : Byte) : hiByte r = b ↔ r >>> 8 = b.setWidth 16 := by
  simp only [hiByte, BitVec.toNat_eq, BitVec.extractLsb'_toNat, BitVec.toNat_ushiftRight, BitVec.toNat_setWidth]
  omega

theorem loByte_eq_iff (r : Word16) (b : Byte) : loByte r = b ↔ r &&& 0x00FF = b.setWidth 16 := by
  have hmask : (r &&& 0x00FF).toNat = r.toNat % 256 := by
    rw [BitVec.toNat_and]
    exact Nat.and_two_pow_sub_one_eq_mod r.toNat 8
  simp only [loByte, BitVec.toNat_eq, BitVec.extractLsb'_toNat, hmask, BitVec.toNat_setWidth]
  omega

/-- The decoder's legacy test is that of 42_frame_decoder.md R446. -/
theorem legacyMatch_iff (s : State) (i : Nat) (h : Hypothesis) :
    legacyMatch s (prefixCrc s (i + 1)) i h = true ↔ legacyTest s i h := by
  rw [legacyMatch, Bool.and_eq_true, beq_iff_eq, beq_iff_eq, correction_legacyTable, capByte_eq_rawAt,
    capByte_eq_rawAt, hiByte_eq_iff, loByte_eq_iff]

/-- V as shifted bytes: its bits 1:0, 9:2 and 15:10 come from the three bytes in turn (42_frame_decoder.md R449). -/
theorem onAirCrc_eq (s : State) (i : Nat) :
    onAirCrc s i = (((rawAt s (i + 1) &&& 0x3F).setWidth 16 <<< 10) ||| ((rawAt s (i + 2)).setWidth 16 <<< 2) |||
      ((rawAt s (i + 3)).setWidth 16 >>> 6)) := by
  have hmask : (0x3F : Byte) = BitVec.ofNat 8 (2 ^ 6 - 1) := rfl
  have hmid : ∀ k, 8 ≤ k → (rawAt s (i + 2)).getLsbD k = false := fun k => BitVec.getLsbD_of_ge _ k
  have hlow : ∀ k, 8 ≤ k → (rawAt s (i + 3)).getLsbD k = false := fun k => BitVec.getLsbD_of_ge _ k
  rw [onAirCrc, capByte_eq_rawAt, capByte_eq_rawAt, capByte_eq_rawAt]
  refine BitVec.eq_of_getLsbD_eq fun k hk => BitVec.getLsbD_append.trans ?_
  simp only [hmask, BitVec.getLsbD_append, BitVec.getLsbD_or, BitVec.getLsbD_extractLsb', BitVec.getLsbD_shiftLeft,
    BitVec.getLsbD_setWidth, BitVec.getLsbD_and, BitVec.getLsbD_ofNat, Nat.testBit_two_pow_sub_one,
    BitVec.getLsbD_ushiftRight]
  obtain hk2 | ⟨hk2, hk10⟩ | hk10 : k < 2 ∨ (2 ≤ k ∧ k < 10) ∨ 10 ≤ k := by omega
  · simp [hk2, show k < 10 by omega, show 6 + k < 16 by omega]
  · simp [hk10, show k < 16 by omega, show ¬ k < 2 by omega, show k - 2 < 8 by omega, show k - 2 < 16 by omega,
      hlow (6 + k) (by omega)]
  · simp [hk, show ¬ k < 2 by omega, show ¬ k < 10 by omega, show ¬ k - 2 < 8 by omega,
      show k - 2 - 8 = k - 10 by omega, show k - 10 < 6 by omega, show k - 10 < 8 by omega, show k - 10 < 16 by omega,
      hmid (k - 2) (by omega), hlow (6 + k) (by omega)]

/-- The decoder's enhanced test is that of 42_frame_decoder.md R450. -/
theorem enhancedMatch_iff (s : State) (i : Nat) (h : Hypothesis) :
    enhancedMatch s (prefixCrc s (i + 1)) i h = true ↔ enhancedTest s i h := by
  rw [enhancedMatch, beq_iff_eq, correction_enhancedTable, onAirCrc_eq, trialCrc, capByte_eq_rawAt]

end DecoderReadings

section Passes

/-- The candidate loop is a search by index, since the running CRC at each index is the CRC over CAP up to it
(42_frame_decoder.md R445, R448). -/
theorem searchCandidates_eq_findSome? (s : State) (test : Word16 → Nat → Option Hypothesis) {a n : Nat}
    (hn : a + n ≤ 32) :
    searchCandidates s test (prefixCrc s a) (List.range' a n) =
      (List.range' a n).findSome? fun i => (test (prefixCrc s (i + 1)) i).map (i, ·) := by
  induction n generalizing a with
  | zero => rfl
  | succ n ih =>
    rw [List.range'_succ, searchCandidates, ← prefixCrc_succ s (by omega), List.findSome?_cons, ih (by omega)]
    cases test (prefixCrc s (a + 1)) a <;> rfl

/-- A search over consecutive numbers ends at the first one that has a value. -/
theorem findSome?_range'_eq_some {β : Type} {f : Nat → Option β} {a n : Nat} {b : β} :
    (List.range' a n).findSome? f = some b ↔
      ∃ i, a ≤ i ∧ i < a + n ∧ f i = some b ∧ ∀ j < i, a ≤ j → f j = none := by
  induction n generalizing a with
  | zero => simp; omega
  | succ n ih =>
    rw [List.range'_succ, List.findSome?_cons]
    cases hf : f a with
    | some b' => grind
    | none => grind

theorem searchCandidates_eq_some_iff {s : State} {test : Word16 → Nat → Option Hypothesis} {a n i : Nat}
    {h : Hypothesis} (hn : a + n ≤ 32) :
    searchCandidates s test (prefixCrc s a) (List.range' a n) = some (i, h) ↔
      a ≤ i ∧ i < a + n ∧ test (prefixCrc s (i + 1)) i = some h ∧
        ∀ j < i, a ≤ j → test (prefixCrc s (j + 1)) j = none := by
  rw [searchCandidates_eq_findSome? s test hn, findSome?_range'_eq_some]
  simp

theorem searchCandidates_eq_none_iff {s : State} {test : Word16 → Nat → Option Hypothesis} {a n : Nat}
    (hn : a + n ≤ 32) :
    searchCandidates s test (prefixCrc s a) (List.range' a n) = none ↔
      ∀ j < a + n, a ≤ j → test (prefixCrc s (j + 1)) j = none := by
  rw [searchCandidates_eq_findSome? s test hn, List.findSome?_eq_none_iff]
  simp only [List.mem_range'_1, Option.map_eq_none_iff]
  exact ⟨fun h j hj ha => h j ⟨ha, hj⟩, fun h j hj => h j hj.2 hj.1⟩

section Candidate
variable {test : Hypothesis → Bool} {p : Hypothesis → Prop} (hp : ∀ h, test h = true ↔ p h)
include hp

/-- PL is taken before SC, with the test as a proposition (42_frame_decoder.md R443). -/
theorem firstHypothesis_eq_some_of_iff {h : Hypothesis} :
    firstHypothesis test = some h ↔ p h ∧ (h = .scrambled → ¬ p .plain) := by
  rw [firstHypothesis_eq_some, ← Bool.not_eq_true, hp, hp]

theorem firstHypothesis_eq_none_of_iff : firstHypothesis test = none ↔ ¬ p .plain ∧ ¬ p .scrambled := by
  simp only [firstHypothesis_eq_none, ← Bool.not_eq_true, hp]
  exact ⟨fun h => ⟨h _, h _⟩, fun ⟨hpl, hsc⟩ h => by cases h <;> assumption⟩

end Candidate

variable {s : State} {i : Nat} {h : Hypothesis}

theorem legacyPass_of_firstLegacyMatch (hm : firstLegacyMatch s i h) : legacyPass s = some ⟨i + 1, h⟩ := by
  obtain ⟨hlo, hhi, htest, hplain, hbelow⟩ := hm
  have hlo : addrLenNat s.addrLen ≤ i := hlo
  rw [legacyPass, legacyStart_eq_prefixCrc]
  refine Option.map_eq_some_iff.mpr
    ⟨(i, h), (searchCandidates_eq_some_iff (by omega)).mpr ⟨hlo, by omega, ?_, fun j hj haj => ?_⟩, rfl⟩
  · exact (firstHypothesis_eq_some_of_iff (legacyMatch_iff s i)).mpr ⟨htest, hplain⟩
  · exact (firstHypothesis_eq_none_of_iff (legacyMatch_iff s j)).mpr (hbelow j hj haj)

theorem legacyPass_eq_none_iff : legacyPass s = none ↔ noLegacyBelow s 30 := by
  have ha := addrLenNat_bounds s.addrLen
  rw [legacyPass, legacyStart_eq_prefixCrc, Option.map_eq_none_iff, searchCandidates_eq_none_iff (by omega),
    Nat.add_sub_of_le (by omega)]
  exact forall₃_congr fun j _ _ => firstHypothesis_eq_none_of_iff (legacyMatch_iff s j)

theorem enhancedPass_of_firstEnhancedMatch (hm : firstEnhancedMatch s i h) : enhancedPass s = some ⟨i, h⟩ := by
  obtain ⟨hlo, hhi, htest, hplain, hbelow⟩ := hm
  rw [enhancedPass, List.range_eq_range', ← show prefixCrc s 0 = s.crcSeed from rfl]
  refine Option.map_eq_some_iff.mpr
    ⟨(i, h), (searchCandidates_eq_some_iff (by omega)).mpr ⟨by omega, by omega, ?_, fun j hj _ => ?_⟩, rfl⟩
  · rw [if_pos hlo]
    exact (firstHypothesis_eq_some_of_iff (enhancedMatch_iff s i)).mpr ⟨htest, hplain⟩
  · rw [ite_eq_right_iff]
    exact fun h3 => (firstHypothesis_eq_none_of_iff (enhancedMatch_iff s j)).mpr (hbelow j hj h3)

theorem enhancedPass_eq_none_iff : enhancedPass s = none ↔ noEnhancedBelow s 29 := by
  rw [enhancedPass, List.range_eq_range', ← show prefixCrc s 0 = s.crcSeed from rfl, Option.map_eq_none_iff,
    searchCandidates_eq_none_iff (by omega)]
  refine forall₂_congr fun j _ => ?_
  rw [forall_prop_of_true (Nat.zero_le j), ite_eq_right_iff]
  exact imp_congr_right fun _ => firstHypothesis_eq_none_of_iff (enhancedMatch_iff s j)

end Passes

section Outcomes

variable {s : State} {m : FrameMatch}

@[simp] theorem writeOutcome_results (s : State) (o : DecodeOutcome) : (writeOutcome s o).results = o.results := rfl

@[simp] theorem statusRes_writeOutcome (s : State) (o : DecodeOutcome) :
    statusRes (writeOutcome s o).status = resultCode o.res :=
  statusRes_statusWithRes ..

theorem legacyOutcome_of_legacyPass (h : legacyPass s = some m) : legacyOutcome s = legacyEnd s m := by
  rw [legacyOutcome, h]

theorem enhancedOutcome_of_enhancedPass (h : enhancedPass s = some m) : enhancedOutcome s = enhancedEnd s m := by
  rw [enhancedOutcome, h]

theorem decodeOutcome_of_legacyPass (h : legacyPass s = some m) : decodeOutcome s = legacyOutcome s := by
  rw [decodeOutcome, legacyOutcome, h]

/-- Pass 1 matches exactly when some legacy candidate does. -/
theorem exists_legacyPass (h : ¬ noLegacyBelow s 30) : ∃ m, legacyPass s = some m :=
  Option.ne_none_iff_exists'.mp (mt legacyPass_eq_none_iff.mp h)

/-- Pass 2 matches exactly when some enhanced candidate does. -/
theorem exists_enhancedPass (h : ¬ noEnhancedBelow s 29) : ∃ m, enhancedPass s = some m :=
  Option.ne_none_iff_exists'.mp (mt enhancedPass_eq_none_iff.mp h)

/-- DECODE_LEGACY with no match (42_frame_decoder.md R456). -/
theorem legacyOutcome_of_noLegacy (h : noLegacyBelow s 30) : legacyOutcome s = noMatchEnd := by
  rw [legacyOutcome, legacyPass_eq_none_iff.mpr h]

/-- DECODE_LEGACY with a match (42_frame_decoder.md R447, R456). -/
theorem legacyOutcome_res (h : ¬ noLegacyBelow s 30) : (legacyOutcome s).res = .legacyOk := by
  obtain ⟨m, hm⟩ := exists_legacyPass h
  rw [legacyOutcome_of_legacyPass hm, legacyEnd]

/-- DECODE_ENHANCED with no match (42_frame_decoder.md R457). -/
theorem enhancedOutcome_of_noEnhanced (h : noEnhancedBelow s 29) : enhancedOutcome s = noMatchEnd := by
  rw [enhancedOutcome, enhancedPass_eq_none_iff.mpr h]

/-- DECODE_ENHANCED with a match (42_frame_decoder.md R453, R454, R457). -/
theorem enhancedOutcome_res (h : ¬ noEnhancedBelow s 29) :
    (enhancedOutcome s).res = .enhancedOk ∨ (enhancedOutcome s).res = .enhLenErr := by
  obtain ⟨m, hm⟩ := exists_enhancedPass h
  rw [enhancedOutcome_of_enhancedPass hm, enhancedEnd]
  split
  · exact .inl rfl
  · exact .inr rfl

/-- DECODE where DECODE_LEGACY matches (42_frame_decoder.md R441). -/
theorem decodeOutcome_of_legacy (h : ¬ noLegacyBelow s 30) : decodeOutcome s = legacyOutcome s := by
  obtain ⟨m, hm⟩ := exists_legacyPass h
  exact decodeOutcome_of_legacyPass hm

/-- DECODE where DECODE_LEGACY does not match (42_frame_decoder.md R441). -/
theorem decodeOutcome_of_noLegacy (h : noLegacyBelow s 30) : decodeOutcome s = enhancedOutcome s := by
  rw [decodeOutcome, legacyPass_eq_none_iff.mpr h]

theorem exec_of_legacyPass {c : Instr} (hc : c = .decode ∨ c = .decodeLegacy) (h : legacyPass s = some m) :
    exec c s = .next (writeOutcome s (legacyEnd s m)) := by
  rw [← legacyOutcome_of_legacyPass h]
  obtain rfl | rfl := hc
  · rw [← decodeOutcome_of_legacyPass h]; rfl
  · rfl

theorem exec_of_enhancedPass {c : Instr} (hc : c = .decodeEnhanced ∨ (c = .decode ∧ noLegacyBelow s 30))
    (h : enhancedPass s = some m) : exec c s = .next (writeOutcome s (enhancedEnd s m)) := by
  rw [← enhancedOutcome_of_enhancedPass h]
  obtain rfl | ⟨rfl, hnone⟩ := hc
  · rfl
  · rw [← decodeOutcome_of_noLegacy hnone]; rfl

theorem enhancedEnd_of_fit (hfit : addrLenNat (resolvedAddrLen s m) ≤ m.frameLen) :
    enhancedEnd s m = ⟨.enhancedOk, enhancedResults s m (addrLenNat (resolvedAddrLen s m))⟩ :=
  if_pos hfit

theorem enhancedEnd_of_short (hshort : m.frameLen < addrLenNat (resolvedAddrLen s m)) :
    enhancedEnd s m = ⟨.enhLenErr, enhLenErrResults s m (addrLenNat (resolvedAddrLen s m))⟩ :=
  if_neg (Nat.not_le.mpr hshort)

/-- The sentence of 42_frame_decoder.md R453 marked derived: a match without room for its address has no consistent
length, so the assumed one stands; and from L ≥ 3 the numbers follow. -/
theorem lengths_of_short (hm : enhancedPass s = some m) (hshort : m.frameLen < addrLenNat (resolvedAddrLen s m)) :
    addrLenNat (resolvedAddrLen s m) = lenA s ∧ (lenA s = 4 ∨ lenA s = 5) ∧ (m.frameLen = 3 ∨ m.frameLen = 4) := by
  have hA : addrLenNat (resolvedAddrLen s m) = lenA s := by
    obtain hcons | ⟨hA, -⟩ := resolvedAddrLen_cases s m
    · exact absurd (addrLenNat_le_of_consistent hcons) (Nat.not_le.mpr hshort)
    · rw [hA, lenA]
  obtain ⟨hlo, -⟩ := enhancedPass_bounds hm
  have ha := addrLenNat_bounds (resolvedAddrLen s m)
  omega

theorem resultCode_eq_four {r : DecodeResult} : resultCode r = 4 ↔ r = .enhLenErr := by
  cases r <;> decide

end Outcomes

section OutcomeStatements

/-- Settles O32, by whether any candidate of each pass matches. -/
theorem decodeTriesLegacyThenEnhanced : Obligations.DecodeTriesLegacyThenEnhanced := by
  intro s
  refine ⟨writeOutcome s (decodeOutcome s), writeOutcome s (legacyOutcome s), writeOutcome s (enhancedOutcome s),
    rfl, rfl, rfl, ?_⟩
  simp only [statusRes_writeOutcome]
  refine ⟨?legacy, ?enhanced, ?decode⟩
  case legacy =>
    by_cases h : noLegacyBelow s 30
    · rw [legacyOutcome_of_noLegacy h]; exact .inr rfl
    · rw [legacyOutcome_res h]; exact .inl rfl
  case enhanced =>
    by_cases h : noEnhancedBelow s 29
    · rw [enhancedOutcome_of_noEnhanced h]; exact .inr (.inl rfl)
    · exact (enhancedOutcome_res h).imp (congrArg resultCode) fun herr => .inr (congrArg resultCode herr)
  case decode =>
    by_cases h : noLegacyBelow s 30
    · rw [decodeOutcome_of_noLegacy h, legacyOutcome_of_noLegacy h]
      exact ⟨fun hne => absurd hne (by decide), fun _ => rfl⟩
    · rw [decodeOutcome_of_legacy h, legacyOutcome_res h]
      exact ⟨fun _ => rfl, fun hne => absurd hne (by decide)⟩

theorem noMatchLeft_noMatchEnd (s : State) : noMatchLeft (writeOutcome s noMatchEnd) :=
  ⟨statusRes_writeOutcome .., rfl⟩

/-- Settles O36, pass by pass; DECODE is the command of the pass that decides. -/
theorem noCandidateGivesNoMatch : Obligations.NoCandidateGivesNoMatch := by
  refine ⟨decode_busWrite 0x00 0x30, decode_busWrite 0x00 0x31, decode_busWrite 0x00 0x32, fun s => ?_⟩
  have hleg (h : ¬ noLegacyBelow s 30) : statusRes (writeOutcome s (legacyOutcome s)).status = 1 := by
    rw [statusRes_writeOutcome, legacyOutcome_res h]; rfl
  have henh (h : ¬ noEnhancedBelow s 29) : statusRes (writeOutcome s (enhancedOutcome s)).status = 2 ∨
      statusRes (writeOutcome s (enhancedOutcome s)).status = 4 := by
    rw [statusRes_writeOutcome]
    exact (enhancedOutcome_res h).imp (congrArg resultCode) (congrArg resultCode)
  refine ⟨⟨writeOutcome s (legacyOutcome s), rfl, fun h => ?_, hleg⟩,
    ⟨writeOutcome s (enhancedOutcome s), rfl, fun h => ?_, henh⟩,
    ⟨writeOutcome s (decodeOutcome s), rfl, fun hl he => ?_, fun hl => ?_, fun hl he => ?_⟩⟩
  · rw [legacyOutcome_of_noLegacy h]; exact noMatchLeft_noMatchEnd s
  · rw [enhancedOutcome_of_noEnhanced h]; exact noMatchLeft_noMatchEnd s
  · rw [decodeOutcome_of_noLegacy hl, enhancedOutcome_of_noEnhanced he]; exact noMatchLeft_noMatchEnd s
  · rw [decodeOutcome_of_legacy hl]; exact hleg hl
  · rw [decodeOutcome_of_noLegacy hl]; exact henh he

/-- Settles O37: of the ends of a decode command only one has that code, and its lengths are those of a short frame. -/
theorem lengthErrorNeedsAShortFrame : Obligations.LengthErrorNeedsAShortFrame := by
  intro c s t hc hexec hres
  obtain ⟨o, ho, hends⟩ := exec_of_isDecodeCommand hc s
  obtain rfl : writeOutcome s o = t := by simpa [ho] using hexec
  rw [statusRes_writeOutcome, resultCode_eq_four] at hres
  cases hends with
  | legacy => nomatch hres
  | enhanced => nomatch hres
  | noMatch => nomatch hres
  | @lengthError m hm hshort =>
    obtain ⟨hA, hlen, hL⟩ := lengths_of_short hm hshort
    simp only [writeOutcome_results, enhLenErrResults, hA]
    refine ⟨hlen, hL.imp (congrArg (BitVec.ofNat 8)) (congrArg (BitVec.ofNat 8)), ?_, toNat_lengthByte (by omega)⟩
    rw [toNat_lengthByte (by omega)]
    omega

end OutcomeStatements

section Footprint

/-- STATUS with RES replaced, as a mask (10_state.md R113). -/
theorem statusWithRes_eq (b : Byte) (c : BitVec 3) : statusWithRes b c = (b &&& 0xF8) ||| c.setWidth 8 := by
  revert b c; decide

/-- Two searches that take the same CRC and test alike at their candidates find the same. -/
theorem searchCandidates_congr {s s' : State} {test test' : Word16 → Nat → Option Hypothesis} {is : List Nat}
    (hcrc : crcOverCap s = crcOverCap s') (htest : ∀ i ∈ is, ∀ crc, test crc i = test' crc i) (crc : Word16) :
    searchCandidates s test crc is = searchCandidates s' test' crc is := by
  induction is generalizing crc with
  | nil => rfl
  | cons i rest ih =>
    rw [List.forall_mem_cons] at htest
    obtain ⟨hi, hrest⟩ := htest
    rw [searchCandidates, searchCandidates, hcrc, hi, ih hrest]

/-- The operands that every decode command reads agree (42_frame_decoder.md R441). -/
structure SameCapture (s s' : State) : Prop where
  cap : s.cap = s'.cap
  addrLen : s.addrLen = s'.addrLen
  crcSeed : s.crcSeed = s'.crcSeed
  crcPoly : s.crcPoly = s'.crcPoly
  scramble : ∀ k < 32, s.tables.scramble[k]? = s'.tables.scramble[k]?

variable {s s' : State} {m : FrameMatch}

theorem SameCapture.capByte_eq (hs : SameCapture s s') : capByte s = capByte s' := by
  funext k
  rw [capByte, capByte, hs.cap]

theorem SameCapture.crcOverCap_eq (hs : SameCapture s s') : crcOverCap s = crcOverCap s' := by
  funext c k
  rw [crcOverCap, crcOverCap, hs.capByte_eq, hs.crcPoly]

theorem SameCapture.viewByte_eq (hs : SameCapture s s') (h : Hypothesis) {k : Nat} (hk : k < 32) :
    viewByte s h k = viewByte s' h k := by
  rw [viewByte, viewByte, hs.capByte_eq]
  cases h with
  | plain => rfl
  | scrambled => rw [maskByte, maskByte, hs.scramble k hk]

/-- Pass 1 reads the legacy tables at 1 to 27 (10_state.md R141, 42_frame_decoder.md R446). -/
theorem SameCapture.legacyPass_eq (hs : SameCapture s s') (ht : ∀ k < 28, 1 ≤ k →
      s.tables.xorPlLeg[k]? = s'.tables.xorPlLeg[k]? ∧ s.tables.xorScLeg[k]? = s'.tables.xorScLeg[k]?) :
    legacyPass s = legacyPass s' := by
  have ha := addrLenNat_bounds s'.addrLen
  rw [legacyPass, legacyPass, legacyStart, legacyStart, hs.addrLen, hs.crcOverCap_eq, hs.crcSeed]
  refine congrArg _ (searchCandidates_congr hs.crcOverCap_eq (fun i hi crc => congrArg _ (funext fun h => ?_)) _)
  rw [List.mem_range'_1] at hi
  obtain ⟨hpl, hsc⟩ := ht (i + 1 - 3) (by omega) (by omega)
  have hentry : correction (legacyTable s.tables h) (i + 1) = correction (legacyTable s'.tables h) (i + 1) := by
    cases h with
    | plain => exact congrArg (Option.getD · 0) hpl
    | scrambled => exact congrArg (Option.getD · 0) hsc
  rw [legacyMatch, legacyMatch, hentry, hs.capByte_eq]

/-- Pass 2 reads the enhanced tables at 0 to 25 (10_state.md R141, 42_frame_decoder.md R450). -/
theorem SameCapture.enhancedPass_eq (hs : SameCapture s s') (ht : ∀ k < 26,
      s.tables.xorPlEnh[k]? = s'.tables.xorPlEnh[k]? ∧ s.tables.xorScEnh[k]? = s'.tables.xorScEnh[k]?) :
    enhancedPass s = enhancedPass s' := by
  rw [enhancedPass, enhancedPass, hs.crcSeed]
  refine congrArg _ (searchCandidates_congr hs.crcOverCap_eq (fun i hi crc => ?_) _)
  rw [List.mem_range] at hi
  refine ite_congr rfl (fun _ => congrArg _ (funext fun h => ?_)) fun _ => rfl
  obtain ⟨hpl, hsc⟩ := ht (i - 3) (by omega)
  have hentry : correction (enhancedTable s.tables h) i = correction (enhancedTable s'.tables h) i := by
    cases h with
    | plain => exact congrArg (Option.getD · 0) hpl
    | scrambled => exact congrArg (Option.getD · 0) hsc
  rw [enhancedMatch, enhancedMatch, hentry, trialCrc, trialCrc, onAirCrc, onAirCrc, hs.capByte_eq, hs.crcPoly]

theorem SameCapture.addrOutOf_eq (hs : SameCapture s s') (h : Hypothesis) {a : Nat} (ha : a ≤ 5) :
    addrOutOf s h a = addrOutOf s' h a :=
  congrArg Vector.ofFn (funext fun _ => ite_congr rfl (fun _ => hs.viewByte_eq h (by omega)) fun _ => rfl)

/-- The results of a pass-1 match are read out of U below index A + 27 (42_frame_decoder.md R447). -/
theorem SameCapture.legacyEnd_eq (hs : SameCapture s s') (m : FrameMatch) : legacyEnd s m = legacyEnd s' m := by
  have ha := addrLenNat_bounds s'.addrLen
  rw [legacyEnd, legacyEnd, legacyResults, legacyResults, hs.addrLen, hs.addrOutOf_eq m.hyp (by omega)]
  refine congrArg (fun p => DecodeOutcome.mk _ (Results.mk _ _ _ _ _ _ (Vector.ofFn p))) (funext fun j => ?_)
  refine ite_congr rfl (fun hj => ?_) fun _ => rfl
  have hk : addrLenNat s'.addrLen + j.val < 32 := by omega
  rw [hs.viewByte_eq m.hyp hk]

theorem SameCapture.pcfLenField_eq (hs : SameCapture s s') (h : Hypothesis) (a : AddrLen) :
    pcfLenField s h (addrLenNat a) = pcfLenField s' h (addrLenNat a) := by
  have ha := addrLenNat_bounds a
  rw [pcfLenField, pcfLenField, hs.viewByte_eq h (by omega)]

theorem SameCapture.resolvedAddrLen_eq (hs : SameCapture s s') (m : FrameMatch) :
    resolvedAddrLen s m = resolvedAddrLen s' m := by
  have hcons : pcfConsistent s m = pcfConsistent s' m := funext fun a => by
    rw [pcfConsistent, pcfConsistent, hs.pcfLenField_eq]
  rw [resolvedAddrLen, resolvedAddrLen, hcons, hs.addrLen]

/-- The results of a pass-2 match are read out of U up to index L + 1 (42_frame_decoder.md R454). -/
theorem SameCapture.enhancedResults_eq (hs : SameCapture s s') {a : AddrLen} (hm : m.frameLen ≤ 28) :
    enhancedResults s m (addrLenNat a) = enhancedResults s' m (addrLenNat a) := by
  have ha := addrLenNat_bounds a
  rw [enhancedResults, enhancedResults, hs.addrOutOf_eq m.hyp (by omega), hs.pcfLenField_eq, pcfAck, pcfAck, pcfPid,
    pcfPid, hs.viewByte_eq m.hyp (by omega), hs.viewByte_eq m.hyp (by omega)]
  refine congrArg (fun p => Results.mk _ _ _ _ _ _ (Vector.ofFn p)) (funext fun j => ?_)
  refine ite_congr rfl (fun hj => ?_) fun _ => rfl
  have hk : addrLenNat a + 2 + j.val < 32 := by omega
  rw [enhancedPayloadByte, enhancedPayloadByte, hs.viewByte_eq m.hyp (by omega), hs.viewByte_eq m.hyp hk]

theorem SameCapture.enhancedEnd_eq (hs : SameCapture s s') (hm : m.frameLen ≤ 28) :
    enhancedEnd s m = enhancedEnd s' m := by
  simp only [enhancedEnd, enhLenErrResults, hs.resolvedAddrLen_eq, hs.enhancedResults_eq hm, hs.pcfLenField_eq]

theorem SameCapture.legacyOutcome_eq (hs : SameCapture s s') (hpass : legacyPass s = legacyPass s') :
    legacyOutcome s = legacyOutcome s' := by
  rw [legacyOutcome, legacyOutcome, hpass]
  cases legacyPass s' with
  | none => rfl
  | some m => exact hs.legacyEnd_eq m

theorem SameCapture.enhancedOutcome_eq (hs : SameCapture s s') (hpass : enhancedPass s = enhancedPass s') :
    enhancedOutcome s = enhancedOutcome s' := by
  rw [enhancedOutcome, enhancedOutcome, hpass]
  cases hm : enhancedPass s' with
  | none => rfl
  | some m => exact hs.enhancedEnd_eq (enhancedPass_bounds hm).2

theorem SameCapture.decodeOutcome_eq (hs : SameCapture s s') (hleg : legacyPass s = legacyPass s')
    (henh : enhancedPass s = enhancedPass s') : decodeOutcome s = decodeOutcome s' := by
  rw [decodeOutcome, decodeOutcome, hleg, hs.enhancedOutcome_eq henh]
  cases legacyPass s' with
  | none => rfl
  | some m => exact hs.legacyEnd_eq m

/-- Two states that agree in a decode command's operands get one outcome (42_frame_decoder.md R458). -/
theorem exec_of_sameDecodeOperands {c : Instr} (hc : isDecodeCommand c) (h : sameDecodeOperands c s s') :
    ∃ o, exec c s = .next (writeOutcome s o) ∧ exec c s' = .next (writeOutcome s' o) := by
  obtain ⟨hcap, hlen, hseed, hpoly, hscr, hleg, henh⟩ := h
  have hs : SameCapture s s' := ⟨hcap, hlen, hseed, hpoly, hscr⟩
  obtain rfl | rfl | rfl := hc
  · have ho := hs.decodeOutcome_eq (hs.legacyPass_eq (hleg nofun)) (hs.enhancedPass_eq (henh nofun))
    exact ⟨decodeOutcome s, rfl, by rw [ho]; rfl⟩
  · have ho := hs.legacyOutcome_eq (hs.legacyPass_eq (hleg nofun))
    exact ⟨legacyOutcome s, rfl, by rw [ho]; rfl⟩
  · have ho := hs.enhancedOutcome_eq (hs.enhancedPass_eq (henh nofun))
    exact ⟨enhancedOutcome s, rfl, by rw [ho]; rfl⟩

/-- Settles O31: a command writes its outcome, and the outcome is one of its operands alone. -/
theorem decodeFootprint : Obligations.DecodeFootprint := by
  refine ⟨fun c s hc => ?writes, fun c s s' hc h => ?reads⟩
  case writes =>
    obtain ⟨o, hexec, -⟩ := exec_of_isDecodeCommand hc s
    exact ⟨_, resultCode o.res, o.results, hexec, by rw [writeOutcome_eq, statusWithRes_eq]⟩
  case reads =>
    obtain ⟨o, hexec, hexec'⟩ := exec_of_sameDecodeOperands hc h
    exact ⟨_, _, hexec, hexec', rfl, by rw [statusRes_writeOutcome, statusRes_writeOutcome]⟩

end Footprint

section OutputArrays

/-- An output array filled below `k`, as a list (10_state.md R126, R127). -/
theorem toList_ofFn_filled {n k : Nat} (hk : k ≤ n) (f : Nat → Byte) :
    (Vector.ofFn fun j : Fin n => if j.val < k then f j.val else 0x00).toList =
      (List.range k).map f ++ List.replicate (n - k) 0x00 := by
  refine List.ext_getElem (by simp; omega) fun j _ _ => ?_
  rw [List.getElem_append]
  by_cases hjk : j < k
  · simp [hjk]
  · simp [hjk]

/-- Counting down from `a - 1` lists the values in reverse. -/
theorem map_range_sub (f : Nat → Byte) (a : Nat) :
    (List.range a).map (fun k => f (a - 1 - k)) = ((List.range a).map f).reverse :=
  List.ext_getElem (by simp) fun k _ _ => by simp

/-- ADDR_OUT is the address bytes of U reversed (42_frame_decoder.md R447, R454). -/
theorem toList_addrOutOf (s : State) (h : Hypothesis) {a : Nat} (ha : a ≤ 5) :
    (addrOutOf s h a).toList = ((List.range a).map (unmaskedAt s h)).reverse ++ List.replicate (5 - a) 0x00 := by
  rw [addrOutOf, toList_ofFn_filled ha fun k => viewByte s h (a - 1 - k), map_range_sub (viewByte s h),
    show viewByte s h = unmaskedAt s h from funext (viewByte_eq_unmaskedAt s h)]

/-- PAYLOAD_OUT of a legacy match (42_frame_decoder.md R447). -/
theorem toList_legacyPayloadOut (s : State) (h : Hypothesis) {L : Nat} (hL : L ≤ 30) :
    (legacyResults s ⟨L, h⟩).payloadOut.toList =
      (List.range (L - lenA s)).map (fun j => bitReverse (unmaskedAt s h (lenA s + j))) ++
        List.replicate (27 - (L - lenA s)) 0x00 := by
  have ha := addrLenNat_bounds s.addrLen
  rw [legacyResults, toList_ofFn_filled (by dsimp only; omega) fun j =>
    bitReverse (viewByte s h (addrLenNat s.addrLen + j))]
  simp only [viewByte_eq_unmaskedAt, lenA]

/-- PAYLOAD_OUT of an enhanced match (42_frame_decoder.md R454). -/
theorem toList_enhancedPayloadOut (s : State) (h : Hypothesis) {L a : Nat} (hL : L - a ≤ 27) :
    (enhancedResults s ⟨L, h⟩ a).payloadOut.toList =
      (List.range (L - a)).map (enhancedPayloadByte s h a) ++ List.replicate (27 - (L - a)) 0x00 :=
  toList_ofFn_filled hL (enhancedPayloadByte s h a)

end OutputArrays

section FrameFields

/-- FLAGS of a legacy match (42_frame_decoder.md R447). -/
theorem flagsOf_legacy (h : Hypothesis) :
    flagsOf false (h == .scrambled) false 0 = if h = .scrambled then 0x02 else 0x00 := by
  cases h <;> decide

/-- FLAGS of a match with no room for its address (42_frame_decoder.md R453). -/
theorem flagsOf_lengthError (h : Hypothesis) :
    flagsOf true (h == .scrambled) false 0 = if h = .scrambled then 0x03 else 0x01 := by
  cases h <;> decide

/-- FLAGS as a number (10_state.md R121). -/
theorem toNat_flagsOf (enh scr ack : Bool) (pid : BitVec 2) :
    (flagsOf enh scr ack pid).toNat = enh.toNat + 2 * scr.toNat + 4 * ack.toNat + 8 * pid.toNat := by
  revert enh scr ack pid; decide

theorem toNat_pcfLenField (s : State) (h : Hypothesis) (a : Nat) :
    (pcfLenField s h a).toNat = (unmaskedAt s h a).toNat / 2 := by
  rw [pcfLenField, BitVec.extractLsb'_toNat, viewByte_eq_unmaskedAt]
  omega

theorem toNat_pcfAck (s : State) (h : Hypothesis) (a : Nat) :
    (pcfAck s h a).toNat = (unmaskedAt s h (a + 1)).toNat / 64 % 2 := by
  rw [pcfAck, viewByte_eq_unmaskedAt, BitVec.getLsbD, Nat.toNat_testBit]

theorem toNat_pcfPid (s : State) (h : Hypothesis) (a : Nat) :
    (pcfPid s h a).toNat = (unmaskedAt s h a).toNat % 2 * 2 + (unmaskedAt s h (a + 1)).toNat / 128 := by
  have happ (x y : BitVec 1) : (x ++ y : BitVec (1 + 1)).toNat = x.toNat * 2 + y.toNat := by revert x y; decide
  have hbyte := (unmaskedAt s h (a + 1)).isLt
  rw [pcfPid, happ, BitVec.extractLsb'_toNat, BitVec.extractLsb'_toNat, viewByte_eq_unmaskedAt,
    viewByte_eq_unmaskedAt]
  omega

/-- FLAGS of an enhanced match (42_frame_decoder.md R452). -/
theorem toNat_flagsOf_enhanced (s : State) (h : Hypothesis) (a : Nat) :
    (flagsOf true (h == .scrambled) (pcfAck s h a) (pcfPid s h a)).toNat = enhancedFlags s h a := by
  rw [toNat_flagsOf, toNat_pcfPid, toNat_pcfAck, enhancedFlags]
  cases h <;> rfl

/-- A payload byte of an enhanced match, from the two bytes it lies across (42_frame_decoder.md R454). -/
theorem enhancedPayloadByte_eq (s : State) (h : Hypothesis) (a j : Nat) :
    enhancedPayloadByte s h a j = bitReverse (BitVec.ofNat 8
      ((unmaskedAt s h (a + 1 + j)).toNat % 64 * 4 + (unmaskedAt s h (a + 2 + j)).toNat / 64)) := by
  have hbyte := (unmaskedAt s h (a + 2 + j)).isLt
  rw [enhancedPayloadByte, viewByte_eq_unmaskedAt, viewByte_eq_unmaskedAt]
  refine congrArg bitReverse (BitVec.eq_of_toNat_eq ?_)
  rw [BitVec.toNat_append, ← Nat.shiftLeft_add_eq_or_of_lt (BitVec.isLt _), Nat.shiftLeft_eq,
    BitVec.extractLsb'_toNat, BitVec.extractLsb'_toNat, BitVec.toNat_ofNat]
  omega

theorem pcfConsistent_iff {s : State} {m : FrameMatch} {a : AddrLen} :
    pcfConsistent s m a = true ↔ pcfAgrees s m.hyp m.frameLen (addrLenNat a) := by
  rw [pcfConsistent, beq_iff_eq, toNat_pcfLenField, pcfAgrees]
  omega

/-- The decoder resolves the address length as 42_frame_decoder.md R452 does: the assumed length where it agrees, else
the last of 3, 4, 5 that does, else the assumed length. -/
theorem resolvedAddrLen_of_resolvesTo {s : State} {m : FrameMatch} {a : Nat}
    (h : resolvesTo s m.hyp m.frameLen a) : addrLenNat (resolvedAddrLen s m) = a := by
  obtain ⟨hA, rfl⟩ | ⟨hA, hlo, hhi, ha, hlast⟩ | ⟨hnone, rfl⟩ := h
  · rw [resolvedAddrLen, if_pos (pcfConsistent_iff.mpr hA), lenA]
  · have hfail (b : AddrLen) (hb : a < addrLenNat b) : ¬ pcfConsistent s m b :=
      mt pcfConsistent_iff.mp (hlast _ (by have := addrLenNat_bounds b; omega) hb)
    rw [resolvedAddrLen, if_neg (mt pcfConsistent_iff.mp hA)]
    obtain rfl | rfl | rfl : a = 3 ∨ a = 4 ∨ a = 5 := by omega
    · have h3 : pcfConsistent s m .three := pcfConsistent_iff.mpr ha
      simp [h3, hfail .four (by decide), hfail .five (by decide), addrLenNat]
    · have h4 : pcfConsistent s m .four := pcfConsistent_iff.mpr ha
      simp [h4, hfail .five (by decide), addrLenNat]
    · have h5 : pcfConsistent s m .five := pcfConsistent_iff.mpr ha
      simp [h5, addrLenNat]
  · obtain hcons | ⟨hA, -⟩ := resolvedAddrLen_cases s m
    · have hb := addrLenNat_bounds (resolvedAddrLen s m)
      exact absurd (pcfConsistent_iff.mp hcons) (hnone _ (by omega) (by omega))
    · rw [hA, lenA]

end FrameFields

section RecoveryStatements

theorem legacyRecovered_legacyEnd (s : State) (h : Hypothesis) {L : Nat} (hL : L ≤ 30) :
    legacyRecovered s (writeOutcome s (legacyEnd s ⟨L, h⟩)) L h := by
  have ha := addrLenNat_bounds s.addrLen
  exact ⟨statusRes_writeOutcome .., toNat_lengthByte (show L < 256 by omega), toNat_lengthByte (by omega),
    toNat_lengthByte (show L - lenA s < 256 by omega), rfl, flagsOf_legacy h, toList_addrOutOf s h ha.2,
    toList_legacyPayloadOut s h hL⟩

/-- Settles O34: the match ends pass 1, and with it the command. -/
theorem firstLegacyMatchIsRecovered : Obligations.FirstLegacyMatchIsRecovered := by
  intro c s i h hc hm
  have hpass := legacyPass_of_firstLegacyMatch hm
  exact ⟨_, exec_of_legacyPass hc hpass, legacyRecovered_legacyEnd s h (legacyPass_bounds hpass).2⟩

theorem enhancedRecovered_enhancedResults (s : State) (h : Hypothesis) {L a : Nat} (ha : 3 ≤ a ∧ a ≤ 5)
    (hL : L ≤ 28) :
    enhancedRecovered s (writeOutcome s ⟨.enhancedOk, enhancedResults s ⟨L, h⟩ a⟩) L h a := by
  refine ⟨statusRes_writeOutcome .., toNat_lengthByte (show L < 256 by omega), toNat_lengthByte (by omega),
    toNat_lengthByte (show L - a < 256 by omega), ?pcfLen, toNat_flagsOf_enhanced s h a, toList_addrOutOf s h ha.2,
    ?payload⟩
  case pcfLen =>
    rw [← toNat_pcfLenField]
    exact BitVec.toNat_setWidth_of_le (by decide)
  case payload =>
    simp only [← enhancedPayloadByte_eq]
    exact toList_enhancedPayloadOut s h (by omega)

theorem enhLenErrResults_eq (s : State) (L : Nat) (h : Hypothesis) (a : Nat) :
    enhLenErrResults s ⟨L, h⟩ a =
      { Results.cleared with
        flags := if h = .scrambled then 0x03 else 0x01
        frameLen := BitVec.ofNat 8 L
        resAddrLen := BitVec.ofNat 8 a
        pcfLen := BitVec.ofNat 8 ((unmaskedAt s h a).toNat / 2) } := by
  rw [enhLenErrResults, flagsOf_lengthError, ← toNat_pcfLenField, BitVec.ofNat_toNat]

/-- Settles O35: the match ends pass 2, and the resolved address length decides between its two ends. -/
theorem firstEnhancedMatchIsRecovered : Obligations.FirstEnhancedMatchIsRecovered := by
  intro c s i a h hc hm ha
  have hpass := enhancedPass_of_firstEnhancedMatch hm
  have ha : addrLenNat (resolvedAddrLen s ⟨i, h⟩) = a := resolvedAddrLen_of_resolvesTo ha
  have hbounds := ha ▸ addrLenNat_bounds (resolvedAddrLen s ⟨i, h⟩)
  refine ⟨_, exec_of_enhancedPass hc hpass, fun hfit => ?fits, fun hlt => ?short⟩
  case fits =>
    rw [enhancedEnd_of_fit (by rwa [ha]), ha]
    exact enhancedRecovered_enhancedResults s h hbounds (enhancedPass_bounds hpass).2
  case short =>
    have hlt : i < addrLenNat (resolvedAddrLen s ⟨i, h⟩) := by rwa [ha]
    obtain ⟨hA, hlen, hL⟩ := lengths_of_short hpass hlt
    rw [enhancedEnd_of_short hlt, ha]
    exact ⟨ha.symm.trans hA, by omega, hL, statusRes_writeOutcome .., enhLenErrResults_eq s i h a⟩

end RecoveryStatements

section LegacyFrames

/-- A sequence of m + n values that is two lists, one after the other, is each of them in its part. -/
theorem map_range_of_append {α : Type} {f : Nat → α} {m n : Nat} {l l' : List α}
    (h : (List.range (m + n)).map f = l ++ l') (hl : l.length = m) :
    (List.range m).map f = l ∧ (List.range n).map (fun k => f (m + k)) = l' := by
  rw [List.range_add, List.map_append, List.map_map] at h
  exact List.append_inj h (by simp [hl])

theorem rawAt_of_take {s : State} {n k : Nat} {l : List Byte} (h : s.cap.toList.take n = l) (hk : k < n) :
    rawAt s k = l.getD k 0x00 := by
  rw [rawAt, List.getD_eq_getElem?_getD, List.getD_eq_getElem?_getD, ← h, List.getElem?_take_of_lt hk]

variable {s : State} {h : Hypothesis} {addr payload : List Byte}

theorem legacyBody_length : (legacyBody s h addr payload).length = addr.length + payload.length := by
  simp [legacyBody]

theorem take_cap_of_holdsLegacyFrame (hf : holdsLegacyFrame s h addr payload) :
    s.cap.toList.take (addr.length + payload.length) = legacyBody s h addr payload := by
  have htake := congrArg (List.take (addr.length + payload.length)) hf
  rwa [List.take_take, Nat.min_eq_left (by omega), List.take_left' legacyBody_length] at htake

/-- The view at a frame's own hypothesis is the frame before scrambling (42_frame_decoder.md R451, R461). -/
theorem map_unmaskedAt_of_holdsLegacyFrame (hf : holdsLegacyFrame s h addr payload) :
    (List.range (addr.length + payload.length)).map (unmaskedAt s h) = addr.reverse ++ payload.map bitReverse := by
  refine List.ext_getElem (by simp) fun k hk _ => ?_
  have hk : k < addr.length + payload.length := by simpa using hk
  rw [List.getElem_map, List.getElem_range, unmaskedAt, rawAt_of_take (take_cap_of_holdsLegacyFrame hf) hk, legacyBody,
    List.getD_eq_getElem _ _ (by simpa using hk), List.getElem_mapIdx, xor_cancel_right]

/-- A frame's own candidate matches: the residue is its CRC field (42_frame_decoder.md R446, R461). -/
theorem legacyTest_of_holdsLegacyFrame {i : Nat} (hf : holdsLegacyFrame s h addr payload)
    (hi : addr.length + payload.length = i + 1) : legacyTest s i h := by
  have hlen : (legacyBody s h addr payload).length = i + 1 := legacyBody_length.trans hi
  have hcrc : prefixCrc s (i + 1) ^^^ legacyCorrection s h (i + 1) = legacyCrcField s h addr payload := by
    rw [← hi, prefixCrc, take_cap_of_holdsLegacyFrame hf, legacyCrcField]
  have hhi : hiByte (legacyCrcField s h addr payload) = rawAt s (i + 1) := by
    rw [rawAt_of_take hf (by omega), List.getD_append_right _ _ _ _ (by omega), hlen, Nat.sub_self]; rfl
  have hlo : loByte (legacyCrcField s h addr payload) = rawAt s (i + 2) := by
    rw [rawAt_of_take hf (by omega), List.getD_append_right _ _ _ _ (by omega), hlen, Nat.add_sub_add_left]; rfl
  rw [legacyTest, hcrc]
  exact ⟨(hiByte_eq_iff ..).mp hhi, (loByte_eq_iff ..).mp hlo⟩

/-- Settles O38: the frame's candidate is the first match, and the view it is recovered from is the frame. -/
theorem legacyFrameRoundTrip : Obligations.LegacyFrameRoundTrip := by
  intro c s h addr payload hc ha hp1 hp hf hbelow hplain
  obtain ⟨i, hi⟩ : ∃ i, addr.length + payload.length = i + 1 := ⟨addr.length + payload.length - 1, by omega⟩
  rw [hi, Nat.add_sub_cancel] at hbelow hplain
  obtain ⟨hlo, hhi⟩ : 3 ≤ lenA s ∧ lenA s ≤ 5 := addrLenNat_bounds s.addrLen
  have hm : firstLegacyMatch s i h := ⟨by omega, by omega, legacyTest_of_holdsLegacyFrame hf hi, hplain, hbelow⟩
  obtain ⟨t, hexec, hres, -, hA, hP, -, hflags, haddr, hpay⟩ := firstLegacyMatchIsRecovered c s i h hc hm
  obtain ⟨haddrU, hpayU⟩ := map_range_of_append (map_unmaskedAt_of_holdsLegacyFrame hf) (List.length_reverse ..)
  have hlen : i + 1 - lenA s = payload.length := by omega
  have hpayload : (List.range payload.length).map (fun j => bitReverse (unmaskedAt s h (lenA s + j))) = payload := by
    simpa [Function.comp_def, ha] using congrArg (List.map bitReverse) hpayU
  refine ⟨t, hexec, hres, ?enh, ?scr, hA.trans ha.symm, hP.trans hlen, ?addr, ?payload⟩
  case enh => rw [hflags]; cases h <;> decide
  case scr => rw [hflags]; cases h <;> decide
  case addr => rw [haddr, ← ha, haddrU, List.reverse_reverse]
  case payload => rw [hpay, hlen, hpayload]

end LegacyFrames

section ByteStreams

/-- Bit `o` of a sequence of bytes read as one stream, bit 7 of each byte first (00_scope.md R10). -/
def streamBit (f : Nat → Byte) (o : Nat) : Bool := (f (o / 8)).getLsbD (7 - o % 8)

theorem streamBit_mul_add (f : Nat → Byte) (k : Nat) {j : Nat} (hj : j < 8) :
    streamBit f (8 * k + j) = (f k).getLsbD (7 - j) := by
  rw [streamBit, Nat.mul_add_div (by decide), Nat.div_eq_of_lt hj, Nat.mul_add_mod, Nat.mod_eq_of_lt hj, Nat.add_zero]

theorem streamBits_eq_map_streamBit (f : Nat → Byte) (n : Nat) :
    streamBits (f n) = (List.range 8).map fun j => streamBit f (8 * n + j) :=
  List.map_congr_left fun _ hj => (streamBit_mul_add f n (List.mem_range.mp hj)).symm

theorem flatMap_streamBits_range (f : Nat → Byte) (n : Nat) :
    (List.range n).flatMap (fun k => streamBits (f k)) = (List.range (8 * n)).map (streamBit f) := by
  induction n with
  | zero => rfl
  | succ n ih =>
    rw [List.range_succ, List.flatMap_append, ih, List.flatMap_singleton, streamBits_eq_map_streamBit f, Nat.mul_succ,
      List.range_add, List.map_append, List.map_map]
    rfl

theorem flatMap_streamBits (l : List Byte) :
    l.flatMap streamBits = (List.range (8 * l.length)).map (streamBit fun k => l.getD k 0x00) := by
  have hl : l = (List.range l.length).map (fun k => l.getD k 0x00) :=
    List.ext_getElem (by simp) fun k hk _ => by simp [hk]
  conv_lhs => rw [hl]
  rw [List.flatMap_map, flatMap_streamBits_range]

theorem take_viewBits (s : State) (h : Hypothesis) {n : Nat} (hn : n ≤ 256) :
    (viewBits s h).take n = (List.range n).map (streamBit (unmaskedAt s h)) := by
  rw [viewBits, flatMap_streamBits_range, ← List.map_take, List.take_range, Nat.min_eq_left hn]

theorem captureBits_eq (s : State) : captureBits s = (List.range 256).map (streamBit (rawAt s)) := by
  rw [captureBits, flatMap_streamBits, Vector.length_toList]
  rfl

theorem take_captureBits (s : State) {n : Nat} (hn : n ≤ 256) :
    (captureBits s).take n = (List.range n).map (streamBit (rawAt s)) := by
  rw [captureBits_eq, ← List.map_take, List.take_range, Nat.min_eq_left hn]

theorem map_range_inj {α : Type} {f g : Nat → α} {n : Nat} :
    (List.range n).map f = (List.range n).map g ↔ ∀ k < n, f k = g k := by
  simp only [List.map_inj_left, List.mem_range]

/-- A byte is its stream bits. -/
theorem byte_eq_of_streamBits {x y : Byte} (h : ∀ j < 8, x.getLsbD (7 - j) = y.getLsbD (7 - j)) : x = y := by
  refine BitVec.eq_of_getLsbD_eq fun i hi => ?_
  have hbit := h (7 - i) (by omega)
  rwa [show 7 - (7 - i) = i by omega] at hbit

/-- A byte put together from two neighbours lies 2 bits into the first (42_frame_decoder.md R462). -/
theorem getLsbD_shiftedByte (f : Nat → Byte) (k : Nat) {j : Nat} (hj : j < 8) :
    ((f k).extractLsb' 0 6 ++ (f (k + 1)).extractLsb' 6 2 : BitVec (6 + 2)).getLsbD (7 - j) =
      streamBit f (8 * k + 2 + j) := by
  rw [BitVec.getLsbD_append]
  obtain hlt | hge := Nat.lt_or_ge j 6
  · rw [if_neg (by omega), Nat.add_assoc, streamBit_mul_add f k (by omega), BitVec.getLsbD_extractLsb',
      decide_eq_true (by omega), Bool.true_and]
    congr 1; omega
  · rw [if_pos (by omega), show 8 * k + 2 + j = 8 * (k + 1) + (j - 6) by omega, streamBit_mul_add f _ (by omega),
      BitVec.getLsbD_extractLsb', decide_eq_true (by omega), Bool.true_and]
    congr 1; omega

/-- V is the 16 stream bits from 2 bits into CAP[i + 1] on (42_frame_decoder.md R449). -/
theorem getLsbD_onAirCrc (s : State) (i : Nat) {j : Nat} (hj : j < 16) :
    (onAirCrc s i).getLsbD (15 - j) = streamBit (rawAt s) (8 * (i + 1) + 2 + j) := by
  rw [onAirCrc, capByte_eq_rawAt, capByte_eq_rawAt, capByte_eq_rawAt]
  refine BitVec.getLsbD_append.trans ?_
  rw [BitVec.getLsbD_append]
  obtain hlt | ⟨hge, hlt⟩ | hge : j < 6 ∨ (6 ≤ j ∧ j < 14) ∨ 14 ≤ j := by omega
  · rw [if_neg (by omega), if_neg (by omega), Nat.add_assoc, streamBit_mul_add _ _ (by omega),
      BitVec.getLsbD_extractLsb', decide_eq_true (by omega), Bool.true_and]
    congr 1; omega
  · rw [if_neg (by omega), if_pos (by omega), show 8 * (i + 1) + 2 + j = 8 * (i + 2) + (j - 6) by omega,
      streamBit_mul_add _ _ (by omega)]
    congr 1; omega
  · rw [if_pos (by omega), show 8 * (i + 1) + 2 + j = 8 * (i + 3) + (j - 14) by omega,
      streamBit_mul_add _ _ (by omega), BitVec.getLsbD_extractLsb', decide_eq_true (by omega), Bool.true_and]
    congr 1; omega

end ByteStreams

section StreamCrc

/-- The running CRC over whole bytes is the bitwise CRC of their stream (41_crc_engine.md R422 (c)). -/
theorem prefixCrc_eq_bits (s : State) {n : Nat} (hn : n ≤ 32) :
    prefixCrc s n = ((List.range (8 * n)).map (streamBit (rawAt s))).foldl (crcBit s.crcPoly) s.crcSeed := by
  induction n with
  | zero => rfl
  | succ n ih =>
    rw [prefixCrc_succ s (by omega), ih (by omega), crcOverCap, capByte_eq_rawAt,
      crcUpdate_of_masked _ (Nat.le_refl 8) (by simp), List.take_of_length_le (streamBits_length _).le,
      ← flatMap_streamBits_range, ← flatMap_streamBits_range, List.range_succ, List.flatMap_append,
      List.foldl_append, List.flatMap_singleton]

theorem and_topBits : ∀ b : Byte, b &&& (0xC0 : Byte) = b >>> (8 - 2) <<< (8 - 2) := by decide

/-- The masked 2-bit update consumes the byte's first two stream bits (42_frame_decoder.md R449). -/
theorem crcUpdate_topBits (c : Word16) (b : Byte) (poly : Word16) :
    crcUpdate c (b &&& 0xC0) 2 poly = ((streamBits b).take 2).foldl (crcBit poly) c := by
  rw [and_topBits, crcUpdate_of_masked c (by decide) (fun k hk => by simp [hk]),
    take_streamBits_highBits b (by decide)]

/-- DEC_TRIAL is the bitwise CRC of the 8(L + 1) + 2 bits the enhanced frame covers (42_frame_decoder.md R462). -/
theorem trialCrc_eq_bits (s : State) {i : Nat} (hi : i < 31) :
    trialCrc s (prefixCrc s (i + 1)) i =
      ((captureBits s).take (8 * (i + 1) + 2)).foldl (crcBit s.crcPoly) s.crcSeed := by
  rw [trialCrc, capByte_eq_rawAt, crcUpdate_topBits, prefixCrc_eq_bits s (by omega), take_captureBits s (by omega),
    List.range_add, List.map_append, List.foldl_append, streamBits_eq_map_streamBit (rawAt s), ← List.map_take,
    List.take_range, List.map_map]
  rfl

end StreamCrc

section EnhancedFrames

variable {s : State} {h : Hypothesis} {addr payload : List Byte} {pid : Nat} {ack : Bool}

/-- The raw CRC field of the capture is the frame's (42_frame_decoder.md R462). -/
theorem onAirCrc_of_holdsEnhancedFrame (hf : holdsEnhancedFrame s h addr payload pid ack)
    (hL : addr.length + payload.length ≤ 28) :
    onAirCrc s (addr.length + payload.length) = enhancedCrcField s h (addr.length + payload.length) := by
  obtain ⟨-, hcrc⟩ := hf
  generalize addr.length + payload.length = L at *
  refine BitVec.eq_of_getLsbD_eq fun k hk => ?_
  have hoffset : 8 * (L + 1) + 2 + (15 - k) < 256 := by omega
  have hk' : 15 - k < 16 := by omega
  rw [show k = 15 - (15 - k) by omega, getLsbD_onAirCrc s _ hk']
  simpa [captureBits_eq, bitsOf, hoffset, hk', BitVec.testBit_toNat] using congrArg (fun l => l[15 - k]?) hcrc

/-- A frame's own candidate matches (42_frame_decoder.md R450, R462). -/
theorem enhancedTest_of_holdsEnhancedFrame (hf : holdsEnhancedFrame s h addr payload pid ack)
    (hL : addr.length + payload.length ≤ 28) : enhancedTest s (addr.length + payload.length) h := by
  rw [← enhancedMatch_iff, enhancedMatch, beq_iff_eq, correction_enhancedTable, trialCrc_eq_bits s (by omega),
    onAirCrc_of_holdsEnhancedFrame hf hL, enhancedCrcField]

/-- The descrambled stream holds the fields of an enhanced frame, each at its offset (42_frame_decoder.md R462). -/
structure ViewHolds (s : State) (h : Hypothesis) (addr payload : List Byte) (pid : Nat) (ack : Bool) : Prop where
  addrBits : ∀ o < 8 * addr.length, streamBit (unmaskedAt s h) o = streamBit (fun k => addr.reverse.getD k 0x00) o
  lenBits : ∀ k < 7, streamBit (unmaskedAt s h) (8 * addr.length + k) = payload.length.testBit (6 - k)
  pidBits : ∀ k < 2, streamBit (unmaskedAt s h) (8 * addr.length + (7 + k)) = pid.testBit (1 - k)
  ackBit : streamBit (unmaskedAt s h) (8 * addr.length + 9) = ack
  payloadBits : ∀ o < 8 * payload.length, streamBit (unmaskedAt s h) (8 * addr.length + 10 + o) =
    streamBit (fun k => (payload.map bitReverse).getD k 0x00) o

theorem viewHolds_of_holdsEnhancedFrame (hf : holdsEnhancedFrame s h addr payload pid ack)
    (hL : addr.length + payload.length ≤ 28) : ViewHolds s h addr payload pid ack := by
  obtain ⟨hview, -⟩ := hf
  have hsplit : 8 * (addr.length + payload.length + 1) + 2 =
      8 * addr.length + (7 + (2 + (1 + 8 * payload.length))) := by omega
  rw [take_viewBits s h (by omega), hsplit, enhancedStream, List.append_assoc, List.append_assoc,
    List.append_assoc] at hview
  obtain ⟨haddr, hview⟩ := map_range_of_append hview (by simp [flatMap_streamBits])
  obtain ⟨hlen, hview⟩ := map_range_of_append hview (by simp [bitsOf])
  obtain ⟨hpid, hview⟩ := map_range_of_append hview (by simp [bitsOf])
  obtain ⟨hack, hpay⟩ := map_range_of_append hview (by simp)
  rw [flatMap_streamBits, List.length_reverse] at haddr
  rw [← List.flatMap_map, flatMap_streamBits, List.length_map] at hpay
  refine ⟨map_range_inj.mp haddr, map_range_inj.mp hlen, map_range_inj.mp hpid, ?_, ?_⟩
  · simpa using hack
  · simpa [← Nat.add_assoc] using map_range_inj.mp hpay

theorem ViewHolds.map_unmaskedAt (hv : ViewHolds s h addr payload pid ack) :
    (List.range addr.length).map (unmaskedAt s h) = addr.reverse := by
  refine List.ext_getElem (by simp) fun k hk hk' => ?_
  rw [List.getElem_map, List.getElem_range]
  refine byte_eq_of_streamBits fun j hj => ?_
  have hk : k < addr.length := by simpa using hk
  have hbit := hv.addrBits (8 * k + j) (by omega)
  rwa [streamBit_mul_add _ _ hj, streamBit_mul_add _ _ hj, List.getD_eq_getElem _ _ hk'] at hbit

theorem ViewHolds.toNat_pcfLenField (hv : ViewHolds s h addr payload pid ack) (hP : payload.length < 128) :
    (pcfLenField s h addr.length).toNat = payload.length := by
  have hfield : pcfLenField s h addr.length = BitVec.ofNat 7 payload.length := by
    refine BitVec.eq_of_getLsbD_eq fun k hk => ?_
    have hbit := hv.lenBits (6 - k) (by omega)
    rw [streamBit_mul_add _ _ (by omega), show 7 - (6 - k) = 1 + k by omega, show 6 - (6 - k) = k by omega] at hbit
    rw [pcfLenField, viewByte_eq_unmaskedAt, BitVec.getLsbD_extractLsb', hbit, BitVec.getLsbD_ofNat]
  rw [hfield, BitVec.toNat_ofNat, Nat.mod_eq_of_lt hP]

theorem ViewHolds.pcfPid_eq (hv : ViewHolds s h addr payload pid ack) :
    pcfPid s h addr.length = BitVec.ofNat 2 pid := by
  have hhi := hv.pidBits 0 (by decide)
  have hlo := hv.pidBits 1 (by decide)
  rw [streamBit_mul_add _ _ (by decide)] at hhi
  rw [show 8 * addr.length + (7 + 1) = 8 * (addr.length + 1) + 0 by omega, streamBit_mul_add _ _ (by decide)] at hlo
  refine BitVec.eq_of_getLsbD_eq fun k hk => BitVec.getLsbD_append.trans ?_
  obtain rfl | rfl : k = 0 ∨ k = 1 := by omega
  · simpa [BitVec.getLsbD_ofNat, -BitVec.getLsbD_eq_getElem] using hlo
  · simpa [BitVec.getLsbD_ofNat, -BitVec.getLsbD_eq_getElem] using hhi

theorem ViewHolds.pcfAck_eq (hv : ViewHolds s h addr payload pid ack) : pcfAck s h addr.length = ack := by
  rw [← hv.ackBit, show 8 * addr.length + 9 = 8 * (addr.length + 1) + 1 by omega, streamBit_mul_add _ _ (by decide),
    pcfAck, viewByte_eq_unmaskedAt]

theorem ViewHolds.map_payloadByte (hv : ViewHolds s h addr payload pid ack) :
    (List.range payload.length).map (enhancedPayloadByte s h addr.length) = payload := by
  refine List.ext_getElem (by simp) fun k _ hk => ?_
  rw [List.getElem_map, List.getElem_range, ← bitReverse_bitReverse payload[k], enhancedPayloadByte,
    viewByte_eq_unmaskedAt, viewByte_eq_unmaskedAt]
  refine congrArg bitReverse (byte_eq_of_streamBits fun j hj => ?_)
  have hbit := hv.payloadBits (8 * k + j) (by omega)
  rw [streamBit_mul_add _ _ hj, List.getD_eq_getElem _ _ (by simpa using hk), List.getElem_map] at hbit
  rw [← hbit, show addr.length + 2 + k = addr.length + 1 + k + 1 by omega, getLsbD_shiftedByte _ _ hj]
  congr 1; omega

/-- A frame's PCF length agrees with its address length, so that length stands (42_frame_decoder.md R452). -/
theorem ViewHolds.resolvedAddrLen_eq (hv : ViewHolds s h addr payload pid ack) (ha : addr.length = lenA s)
    (hP : payload.length < 128) :
    addrLenNat (resolvedAddrLen s ⟨addr.length + payload.length, h⟩) = addr.length := by
  have hagrees : pcfAgrees s h (addr.length + payload.length) (lenA s) := by
    rw [pcfAgrees, ← ha, ← Proofs.toNat_pcfLenField, hv.toNat_pcfLenField hP, Nat.add_comm]
  exact resolvedAddrLen_of_resolvesTo (.inl ⟨hagrees, ha⟩)

/-- Settles O39: the frame's candidate is the first match, its address length stands, and each field of the view is the
frame's. -/
theorem enhancedFrameRoundTrip : Obligations.EnhancedFrameRoundTrip := by
  intro c s h addr payload pid ack hc ha hL hpid hf hbelow hplain
  obtain ⟨hlo, hhi⟩ : 3 ≤ lenA s ∧ lenA s ≤ 5 := addrLenNat_bounds s.addrLen
  have hm : firstEnhancedMatch s (addr.length + payload.length) h :=
    ⟨by omega, hL, enhancedTest_of_holdsEnhancedFrame hf hL, hplain, hbelow⟩
  have hv := viewHolds_of_holdsEnhancedFrame hf hL
  have hA := hv.resolvedAddrLen_eq ha (by omega)
  have hP : addr.length + payload.length - addr.length = payload.length := Nat.add_sub_cancel_left ..
  refine ⟨_, exec_of_enhancedPass hc (enhancedPass_of_firstEnhancedMatch hm), ?_⟩
  rw [enhancedEnd_of_fit (by rw [hA]; exact Nat.le_add_right ..), hA]
  refine ⟨statusRes_writeOutcome .., flagsEnh_flagsOf .., flagsScr_flagsOf .., ?pid, ?ack, toNat_lengthByte (by omega),
    ?payloadLen, ?pcfLen, ?addr, ?payload⟩
  case pid =>
    refine (congrArg BitVec.toNat (flagsPid_flagsOf ..)).trans ?_
    rw [hv.pcfPid_eq, BitVec.toNat_ofNat, Nat.mod_eq_of_lt hpid]
  case ack => exact (flagsAck_flagsOf ..).trans hv.pcfAck_eq
  case payloadLen =>
    exact (toNat_lengthByte (show addr.length + payload.length - addr.length < 256 by omega)).trans hP
  case pcfLen => exact (BitVec.toNat_setWidth_of_le (by decide)).trans (hv.toNat_pcfLenField (by omega))
  case addr =>
    refine (toList_addrOutOf s h (by omega)).trans ?_
    rw [hv.map_unmaskedAt, List.reverse_reverse]
  case payload =>
    refine (toList_enhancedPayloadOut s h (by omega)).trans ?_
    rw [hP, hv.map_payloadByte]

end EnhancedFrames

end Sys2Proof.Proofs

namespace Sys2Proof.Proofs

/-!
The control commands NOP, CLEAR_ERR and SOFT_RESET (43_control.md R501 to R503). ERR is sticky: every other effect keeps
it set (`Effect.statusErr_of_err`).
-/

open Sys2Proof Sys2Proof.Machine Sys2Proof.Claims

section ErrorRecord

theorem statusClearErr_of_no_err : ∀ b : Byte, statusErr b = false → statusClearErr b = b := by decide

/-- In a legal state with ERR = 0 there is no record to clear, since ERRCODE is NONE (43_control.md R502). -/
theorem clearErrorRecord_of_no_err {s : State} (hs : s.Legal) (herr : statusErr s.status = false) :
    clearErrorRecord s = s := by
  obtain ⟨-, ⟨-, hnone⟩, -⟩ := hs
  have hcode : s.errCode = 0x00 := hnone.mp herr
  calc clearErrorRecord s = { s with status := statusClearErr s.status, errCode := 0x00 } := rfl
    _ = s := by rw [statusClearErr_of_no_err s.status herr, ← hcode]

/-- ERR stays set until CLEAR_ERR or SOFT_RESET: a refused write sets it again, and a decode command writes RES alone
(60_exceptions.md R603, R606). -/
theorem Effect.statusErr_of_err {i : Instr} {s t : State} (h : Effect i s t) (hclear : i ≠ .clearErr)
    (hreset : i ≠ .softReset) (herr : statusErr s.status = true) : statusErr t.status = true := by
  cases h with
  | clearErr => exact absurd rfl hclear
  | softReset => exact absurd rfl hreset
  | refuseWrite => exact statusErr_statusSetErr s.status
  | decode => exact (statusErr_statusWithRes ..).trans herr
  | _ => exact herr

end ErrorRecord

section ControlStatements

/-- Settles O13: CLEAR_ERR's effect is `clearErrorRecord`, and no other effect but SOFT_RESET's clears ERR. -/
theorem clearErrClearsTheErrorRecord : Obligations.ClearErrClearsTheErrorRecord := by
  refine ⟨decode_busWrite 0x00 0x02, fun _ => rfl, ?fields, ?noError, ?onlyClears⟩
  case fields =>
    intro s t hexec
    obtain rfl : clearErrorRecord s = t := Host.Outcome.next.inj hexec
    exact ⟨statusErr_statusClearErr s.status, statusRes_statusClearErr s.status⟩
  case noError =>
    intro s hs herr
    exact congrArg Host.Outcome.next (clearErrorRecord_of_no_err hs herr)
  case onlyClears =>
    intro i s t hwf hexec herr hcleared
    by_contra hother
    obtain ⟨hclear, hreset⟩ := not_or.mp hother
    have hkept := (effect_of_exec hwf hexec).statusErr_of_err hclear hreset herr
    simp [hkept] at hcleared

/-- Settles O12: NOP's word is the write of 0x00 to CMD, and its effect the identity. -/
theorem nopChangesNothing : Obligations.NopChangesNothing :=
  ⟨decode_busWrite 0x00 0x00, fun _ => rfl⟩

/-- Settles O14: SOFT_RESET's effect is `resetRegisters`, whose fields are the reset values. -/
theorem softResetRestoresRegistersAndKeepsCap : Obligations.SoftResetRestoresRegistersAndKeepsCap :=
  ⟨decode_busWrite 0x00 0xF0, fun s =>
    ⟨resetRegisters s, rfl, rfl, rfl, rfl, rfl, rfl, rfl, rfl, rfl, rfl, rfl, rfl, rfl, rfl, rfl, rfl⟩⟩

end ControlStatements

end Sys2Proof.Proofs

namespace Sys2Proof.Proofs

/-!
The interface errors (60_exceptions.md): which step refuses, which write records an error (`Effect.regWrite_cases`), and
that no access but a read of the record depends on it (`IgnoresRecord`).
-/

open Sys2Proof Sys2Proof.Machine Sys2Proof.Claims

section Completion

/-- The decoder refuses a read word whose DATA is not 0x00, and only that (30_encoding.md R302). -/
theorem decode_eq_none_iff {w : BusWord} : decode w = none ↔ busIsWrite w = false ∧ busData w ≠ 0x00 := by
  refine ⟨fun h => ?_, fun ⟨hw, hd⟩ => decode_of_malformed_read hw hd⟩
  cases hw : busIsWrite w with
  | true => cases (decode_of_write hw).symm.trans h
  | false => exact ⟨rfl, fun hd => nomatch (decode_of_read hw hd).symm.trans h⟩

/-- With no reset due, a step refuses a word that spells no instruction. -/
theorem step_of_decode_none {s : State} {w : BusWord} (hdue : duePowerOn s.host = none)
    (hw : s.host.program[s.host.pc]? = some w) (hd : decode w = none) : step s = .refused .malformedReadWord := by
  simp only [step, hdue, runAccess, fetchWord, hw, runWord, hd]

/-- A due power-on reset is a step of its own, whatever the next word (70_reset_and_hazards.md R701). -/
theorem step_of_due {s : State} {rest : List Nat} (hdue : duePowerOn s.host = some rest) :
    step s = .next (powerOnReset (s.setHost { s.host with powerOns := rest })) := by
  simp only [step, hdue]

/-- Settles O9, by what the step finds: a due reset, no word, a word the decoder accepts, or one it refuses. -/
theorem stepCompletesUnlessTheWordIsMalformed : Obligations.StepCompletesUnlessTheWordIsMalformed := by
  refine ⟨fun s => ?completes, fun s w hdue hw hread hdata => ?refuses⟩
  case refuses => exact step_of_decode_none hdue hw (decode_of_malformed_read hread hdata)
  case completes =>
    cases hdue : duePowerOn s.host with
    | some rest => exact .inl ⟨_, step_of_due hdue⟩
    | none =>
      cases hw : s.host.program[s.host.pc]? with
      | none => exact .inl ⟨s, stepIsIdleAfterTheProgram s hdue (List.getElem?_eq_none_iff.mp hw)⟩
      | some w =>
        cases hd : decode w with
        | none => exact .inr ⟨step_of_decode_none hdue hw hd, rfl, w, rfl, decode_eq_none_iff.mp hd⟩
        | some i =>
          obtain ⟨t, ht, -⟩ := exec_effect i (advance s) (wellFormed_of_decode hd)
          exact .inl ⟨t, (step_eq_exec hdue hw hd).trans ht⟩

end Completion

section RaisedErrors

/-- The values a range-checked register takes are those its byte names (20_memory.md R204 (c)). -/
theorem isSome_offsetOf : ∀ v : Byte, (offsetOf v).isSome = inRange 0x0B v := by decide

theorem isSome_addrLenOf : ∀ v : Byte, (addrLenOf v).isSome = inRange 0x0D v := by decide

theorem isSome_capLenOf : ∀ v : Byte, (capLenOf v).isSome = inRange 0x0E v := by decide

theorem storingAddress_cap : ∀ k : Fin 32, storingAddress (BitVec.ofNat 8 (0x20 + k.val)) = true := by decide

theorem errorRaised_of_inRange {a v : Byte} (h : inRange a v = true) : errorRaised a v = none :=
  errorRaised_of_accepted (by rw [h, Bool.or_true])

theorem errorRaised_of_storingAddress {a : Byte} (v : Byte) (h : storingAddress a = true) : errorRaised a v = none :=
  errorRaised_of_accepted (by rw [h, Bool.true_or])

/-- A host write records the one error the table names for it, or the table names none (60_exceptions.md R602, R605). -/
theorem Effect.regWrite_cases {i : Instr} {s t : State} (h : Effect i s t) {a v : Byte} (hi : i = .regWrite a v) :
    (∃ e, errorRaised a v = some (errorCode e) ∧ t = raiseError e s) ∨ errorRaised a v = none := by
  cases h with
  | refuseWrite _ herr => cases hi; exact .inl ⟨_, herr, rfl⟩
  | crcUpdate n => exact absurd hi (crcUpdateOf_ne_regWrite n a v)
  | decode hc => obtain rfl | rfl | rfl := hc <;> cases hi
  | writeOffset _ ho => cases hi; exact .inr (errorRaised_of_inRange (by rw [← isSome_offsetOf, ho]; rfl))
  | writeAddrLen _ ha => cases hi; exact .inr (errorRaised_of_inRange (by rw [← isSome_addrLenOf, ha]; rfl))
  | writeCapLen _ hn => cases hi; exact .inr (errorRaised_of_inRange (by rw [← isSome_capLenOf, hn]; rfl))
  | writeCap k => cases hi; exact .inr (errorRaised_of_storingAddress v (storingAddress_cap k))
  | writeData | writeCrcStateLo | writeCrcStateHi | writeCrcPolyLo | writeCrcPolyHi | writeCrcSeedLo
  | writeCrcSeedHi => cases hi; exact .inr (errorRaised_of_storingAddress v rfl)
  | _ => cases hi

/-- A command byte written to CMD raises no error (60_exceptions.md R602). -/
theorem errorRaised_of_commandOf {c : Byte} {i : Instr} (h : commandOf c = some i) : errorRaised 0x00 c = none := by
  have hall : ∀ c : Byte, (commandOf c).isSome = true → errorRaised 0x00 c = none := by decide
  exact hall c (by rw [h]; rfl)

/-- The word of a refused write spells a REG_WRITE (30_encoding.md R307). -/
theorem decodeWrite_of_errorRaised {a v code : Byte} (h : errorRaised a v = some code) :
    decodeWrite a v = .regWrite a v := by
  obtain ⟨rfl, hc⟩ | hreg := decodeWrite_cases a v
  · cases (errorRaised_of_commandOf hc).symm.trans h
  · exact hreg

/-- The word of a refused write raises its error and does nothing else (60_exceptions.md R602). -/
theorem exec_decodeWrite_of_errorRaised {a v code : Byte} (h : errorRaised a v = some code) (s : State) :
    ∃ e, errorCode e = code ∧ exec (decodeWrite a v) s = .next (raiseError e s) := by
  obtain ⟨t, hexec, heff⟩ := exec_effect (decodeWrite a v) s (decodeWrite_wellFormed a v)
  obtain ⟨e, he, rfl⟩ | hnone := heff.regWrite_cases (decodeWrite_of_errorRaised h)
  · exact ⟨e, Option.some.inj (he.symm.trans h), hexec⟩
  · cases hnone.symm.trans h

/-- The error record changes only by a refused write, CLEAR_ERR and SOFT_RESET (60_exceptions.md R602, R606). -/
theorem Effect.errorRecord_eq {i : Instr} {s t : State} (h : Effect i s t) (hraises : raises i = false)
    (hclear : i ≠ .clearErr) (hreset : i ≠ .softReset) :
    statusErr t.status = statusErr s.status ∧ t.errCode = s.errCode := by
  cases h with
  | clearErr => exact absurd rfl hclear
  | softReset => exact absurd rfl hreset
  | refuseWrite _ herr => simp [raises, herr] at hraises
  | decode => exact ⟨statusErr_statusWithRes .., rfl⟩
  | _ => exact ⟨rfl, rfl⟩

/-- Settles O26: a refused write is `raiseError` of its kind, and every other effect keeps the record. -/
theorem interfaceErrorsAreRecordedExactly : Obligations.InterfaceErrorsAreRecordedExactly := by
  refine ⟨fun a v code s h => ?records, fun i s t hwf hraises hclear hreset hexec => ?keeps⟩
  case records =>
    obtain ⟨e, rfl, hexec⟩ := exec_decodeWrite_of_errorRaised h s
    rw [hexec, raiseError_eq_recorded]
  case keeps => exact (effect_of_exec hwf hexec).errorRecord_eq hraises hclear hreset

/-- Settles O27: with ERR already set, `raiseError` is the identity. -/
theorem errorWhileErrIsSetChangesNothing : Obligations.ErrorWhileErrIsSetChangesNothing := by
  intro a v code s h herr
  obtain ⟨e, -, hexec⟩ := exec_decodeWrite_of_errorRaised h s
  rw [hexec, raiseError_of_err e s herr]

end RaisedErrors

section StandingErrors

@[simp] theorem withoutErrorRecord_idem (s : State) :
    withoutErrorRecord (withoutErrorRecord s) = withoutErrorRecord s := by
  simp [withoutErrorRecord, BitVec.and_assoc]

/-- An error changes nothing but the record (60_exceptions.md R604). -/
@[simp] theorem withoutErrorRecord_raiseError (e : ErrorKind) (s : State) :
    withoutErrorRecord (raiseError e s) = withoutErrorRecord s := by
  have hmask : ∀ b : Byte, (b ||| 0x80) &&& 0x7F = b &&& 0x7F := by decide
  rw [raiseError_eq_recorded]
  simp only [withoutErrorRecord, recorded, hmask]

/-- The operation leaves the same state, apart from the error record, whether or not an error stands (60_exceptions.md
R606). -/
def IgnoresRecord (f : State → State) : Prop :=
  ∀ s, withoutErrorRecord (f (withoutErrorRecord s)) = withoutErrorRecord (f s)

/-- An operation that the masking commutes with neither reads nor writes the record. -/
theorem ignoresRecord_of_commutes {f : State → State}
    (h : ∀ s, f (withoutErrorRecord s) = withoutErrorRecord (f s)) : IgnoresRecord f := by
  intro s
  rw [h, withoutErrorRecord_idem]

theorem ignoresRecord_raiseError (e : ErrorKind) : IgnoresRecord (raiseError e) := by
  intro s
  simp

theorem ignoresRecord_storeChecked {α : Type} (legal : Option α) {store : State → α → State}
    (h : ∀ x, IgnoresRecord fun s => store s x) : IgnoresRecord fun s => storeChecked legal (store s) s := by
  cases legal with
  | some x => exact h x
  | none => exact ignoresRecord_raiseError .illegalValue

/-- RES and ERR do not overlap (10_state.md R113). -/
theorem writeOutcome_withoutErrorRecord (s : State) (o : DecodeOutcome) :
    writeOutcome (withoutErrorRecord s) o = withoutErrorRecord (writeOutcome s o) := by
  have hmask : ∀ (b : Byte) (c : BitVec 3), statusWithRes (b &&& 0x7F) c = statusWithRes b c &&& 0x7F := by decide
  rw [writeOutcome_eq, writeOutcome_eq]
  simp only [withoutErrorRecord, hmask]

/-- A decode command's operands hold no part of the record (42_frame_decoder.md R458). -/
theorem ignoresRecord_of_isDecodeCommand {c : Instr} {f : State → State} (hc : isDecodeCommand c)
    (hf : ∀ s, exec c s = .next (f s)) : IgnoresRecord f := by
  refine ignoresRecord_of_commutes fun s => ?_
  have hoperands : sameDecodeOperands c s (withoutErrorRecord s) :=
    ⟨rfl, rfl, rfl, rfl, fun _ _ => rfl, fun _ _ _ _ => ⟨rfl, rfl⟩, fun _ _ _ => ⟨rfl, rfl⟩⟩
  obtain ⟨o, ho, ho'⟩ := exec_of_sameDecodeOperands hc hoperands
  have hs : f s = writeOutcome s o := Host.Outcome.next.inj ((hf _).symm.trans ho)
  have hs' : f (withoutErrorRecord s) = writeOutcome (withoutErrorRecord s) o :=
    Host.Outcome.next.inj ((hf _).symm.trans ho')
  rw [hs, hs', writeOutcome_withoutErrorRecord]

/-- Every byte written to CMD: the decode commands are cases 15 to 17, SOFT_RESET is 18, and 19 is a reserved byte,
which records its error (60_exceptions.md R606). -/
theorem ignoresRecord_runCommand (c : Byte) : IgnoresRecord (runCommand c) := by
  unfold runCommand
  split
  case h_15 => exact ignoresRecord_of_isDecodeCommand (.inl rfl) fun _ => rfl
  case h_16 => exact ignoresRecord_of_isDecodeCommand (.inr (.inl rfl)) fun _ => rfl
  case h_17 => exact ignoresRecord_of_isDecodeCommand (.inr (.inr rfl)) fun _ => rfl
  case h_18 => exact fun _ => rfl
  case h_19 => exact ignoresRecord_raiseError .reservedCmd
  all_goals exact ignoresRecord_of_commutes fun _ => rfl

/-- Every host write is stored or refused, whatever the record holds (60_exceptions.md R606). -/
theorem ignoresRecord_writeRegByte (r : RegByte) (v : Byte) : IgnoresRecord (writeRegByte r v) := by
  cases r with
  | cmd => exact ignoresRecord_runCommand v
  | offset => exact ignoresRecord_storeChecked _ fun _ => ignoresRecord_of_commutes fun _ => rfl
  | addrLen => exact ignoresRecord_storeChecked _ fun _ => ignoresRecord_of_commutes fun _ => rfl
  | capLen => exact ignoresRecord_storeChecked _ fun _ => ignoresRecord_of_commutes fun _ => rfl
  | status | errCode | result | flags | frameLen | resAddrLen | payloadLen | pcfLen | addrOut k | payloadOut k
  | scrTable k => exact ignoresRecord_raiseError .writeRo
  | reserved => exact ignoresRecord_raiseError .reservedAddr
  | _ => exact ignoresRecord_of_commutes fun _ => rfl

/-- Only the addresses of STATUS and ERRCODE read the record (20_memory.md R205). -/
theorem memRead_withoutErrorRecord {a : Byte} (hstatus : a ≠ 0x01) (hcode : a ≠ 0x02) (s : State) :
    memRead (withoutErrorRecord s) a = memRead s a := by
  unfold memRead
  cases hr : regAt a with
  | status => exact absurd (regAt_injective (show regAt a = regAt 0x01 from hr) (by simp [hr])) hstatus
  | errCode => exact absurd (regAt_injective (show regAt a = regAt 0x02 from hr) (by simp [hr])) hcode
  | _ => rfl

theorem ignoresRecord_regRead {a : Byte} (hstatus : a ≠ 0x01) (hcode : a ≠ 0x02) :
    IgnoresRecord fun s => returnToHost (memRead s a) s := by
  refine ignoresRecord_of_commutes fun s => ?_
  rw [memRead_withoutErrorRecord hstatus hcode]
  rfl

/-- Every instruction but a read is a host write: a command is the write of its byte to CMD (30_encoding.md R304). -/
theorem exists_memWrite_of_ne_regRead {i : Instr} (hi : ∀ a, i ≠ .regRead a) :
    ∃ a v, ∀ s, exec i s = .next (memWrite a v s) := by
  cases hwf : i.wellFormed with
  | true =>
    obtain ⟨-, hw⟩ | ⟨-, hr⟩ := decode_eq_some_cases (decodeOfEncodeIsTheInstruction i hwf)
    · exact ⟨_, _, fun s => (congrArg (exec · s) hw).trans (exec_decodeWrite ..)⟩
    · exact absurd hr (hi _)
  | false =>
    cases i with
    | regWrite a v => exact ⟨a, v, fun _ => rfl⟩
    | _ => cases hwf

/-- Settles O28: a read by its address, and every other instruction as a host write. -/
theorem errorRecordDoesNotBlockAccesses : Obligations.ErrorRecordDoesNotBlockAccesses := by
  intro i s hstatus hcode
  by_cases hread : ∃ a, i = .regRead a
  · obtain ⟨a, rfl⟩ := hread
    have hblind := ignoresRecord_regRead (mt (congrArg Instr.regRead) hstatus)
      (mt (congrArg Instr.regRead) hcode)
    exact ⟨_, _, rfl, rfl, (hblind s).symm⟩
  · obtain ⟨a, v, hexec⟩ := exists_memWrite_of_ne_regRead (not_exists.mp hread)
    exact ⟨_, _, hexec _, hexec _, (ignoresRecord_writeRegByte (regAt a) v s).symm⟩

end StandingErrors

end Sys2Proof.Proofs

namespace Sys2Proof.Proofs

/-!
The power-on reset as a step (70_reset_and_hazards.md R701, R702), and the two byte writes of a 16-bit register (R706):
each half replaced, the register is the two bytes side by side, whichever went first.
-/

open Sys2Proof Sys2Proof.Machine Sys2Proof.Claims

section SplitWrites

/-- The byte at bits 15:8 counts 256 times its value (20_memory.md R206). -/
theorem append_eq_ofNat (hi lo : Byte) : (hi ++ lo : Word16) = BitVec.ofNat 16 (hi.toNat * 256 + lo.toNat) := by
  have hlo : lo.toNat < 2 ^ 8 := lo.isLt
  apply BitVec.eq_of_toNat_eq
  rw [BitVec.toNat_append, ← Nat.shiftLeft_add_eq_or_of_lt hlo, Nat.shiftLeft_eq, BitVec.toNat_ofNat]
  omega

/-- Nothing of the old value is left when the low half is written before the high half (70_reset_and_hazards.md
R706). -/
theorem withHiByte_withLoByte (v : Word16) (lo hi : Byte) :
    withHiByte (withLoByte v lo) hi = BitVec.ofNat 16 (hi.toNat * 256 + lo.toNat) := by
  rw [withHiByte, loByte_withLoByte, append_eq_ofNat]

theorem withLoByte_withHiByte (v : Word16) (lo hi : Byte) :
    withLoByte (withHiByte v hi) lo = BitVec.ofNat 16 (hi.toNat * 256 + lo.toNat) := by
  rw [withLoByte, hiByte_withHiByte, append_eq_ofNat]

/-- Two addresses that write the halves of one register give it the same value in either order, whatever register
`set` writes (70_reset_and_hazards.md R706). -/
theorem splitWrites_commute {aLo aHi lo hi : Byte} {s : State} (v : Word16) (set : Word16 → State)
    (hlow : runAll [.regWrite aLo lo, .regWrite aHi hi] s = some (set (withHiByte (withLoByte v lo) hi)))
    (hhigh : runAll [.regWrite aHi hi, .regWrite aLo lo] s = some (set (withLoByte (withHiByte v hi) lo))) :
    ∃ t, runAll [.regWrite aLo lo, .regWrite aHi hi] s = some t ∧
      runAll [.regWrite aHi hi, .regWrite aLo lo] s = some t ∧
      t = set (BitVec.ofNat 16 (hi.toNat * 256 + lo.toNat)) := by
  rw [withHiByte_withLoByte] at hlow
  rw [withLoByte_withHiByte] at hhigh
  exact ⟨_, hlow, hhigh, rfl⟩

end SplitWrites

section DueReset

/-- The next reset is due once the host's index has reached its number (70_reset_and_hazards.md R701). -/
theorem duePowerOn_of_le {h : HostSide} {n : Nat} {rest : List Nat} (hp : h.powerOns = n :: rest) (hn : n ≤ h.pc) :
    duePowerOn h = some rest := by
  simp only [duePowerOn, hp, if_pos hn]

/-- Each CAP byte is the free value of this draw (10_state.md R132). -/
theorem getElem_cap_powerOnReset (s : State) (k : Fin 32) :
    (powerOnReset s).cap[k] = Config.capPowerOn s.capDraws k :=
  Vector.getElem_ofFn k.isLt

end DueReset

section ResetAndHazardStatements

/-- Settles O30, register by register: what the two writes leave is the setter applied to both halves replaced. -/
theorem splitWriteOrderDoesNotMatter : Obligations.SplitWriteOrderDoesNotMatter := fun _ _ s =>
  ⟨splitWrites_commute s.crcState s.setCrcState rfl rfl,
    splitWrites_commute s.crcPoly s.setCrcPoly rfl rfl,
    splitWrites_commute s.crcSeed s.setCrcSeed rfl rfl⟩

/-- Settles O8: the step is `powerOnReset` of the state with the due reset taken off the schedule. -/
theorem duePowerOnResetsTheBlock : Obligations.DuePowerOnResetsTheBlock := fun _ _ _ hp hn =>
  ⟨_, step_of_due (duePowerOn_of_le hp hn), rfl, rfl, rfl, rfl, rfl, rfl, rfl, rfl, rfl, rfl, rfl, rfl,
    getElem_cap_powerOnReset _, rfl, rfl⟩

end ResetAndHazardStatements

end Sys2Proof.Proofs
